-- ==== Sys2Proof/Word.lean ====
section
/-!
DEFINITION. The one unit of data of the block: a byte (spec 00_scope R5, 20_memory R41).
-/

namespace Sys2Proof

/-- A byte: the unit of every buffer and of the DATA port (R5). -/
abbrev Byte := BitVec 8

end Sys2Proof
end

