-- ==== Sys2Proof/Syntax.lean ====
section
/-!
DEFINITION. What the block consumes and produces, as names: the nineteen recognised events (30_encoding R62), the
six commands (R65), the modes (R73), the request words of the host port (R67), and `Instr`, one constructor per row
of spec/opcode_table.json.
-/

namespace Sys2Proof

/-- The nineteen events the block recognises, in the order of the table of R62. -/
inductive Event where
  | startSent | repStartSent
  | mtSlaAck | mtSlaNack | mtDataAck | mtDataNack
  | arbLost
  | mrSlaAck | mrSlaNack | mrDataAck | mrDataNack
  | srSlaAck | srGcallAck | srDataAck | srGcallDataAck | srStop
  | stSlaAck | stDataAck | stDataNack
  deriving DecidableEq, Repr

/-- The six commands of the Command Issuer (R65). -/
inductive Command where
  | start | stop | transmitData | transmitAck | transmitNack | enableSlaveReset
  deriving DecidableEq, Repr

/-- Peripheral Mode (10_state R18). -/
inductive Mode where
  | master | slave
  deriving DecidableEq, Repr

/-- A request as it stands on the host port: the 16-bit header, the length `n`, the payload bytes (R67). -/
structure HostWord where
  header  : BitVec 16
  n       : Nat
  payload : List Byte
  deriving DecidableEq, Repr

/-- One constructor per row of the opcode table: the EV words the handler consumes, the CMD words the Command Issuer
produces, the HOST words the host presents. The byte that comes with a receive event is no operand: it is in DATA
(R61). -/
inductive Instr where
  -- EV (42_bsm_master, 43_bsm_slave)
  | evStartSent
  | evRepStartSent
  | evMtSlaAck
  | evMtSlaNack
  | evMtDataAck
  | evMtDataNack
  | evArbLost
  | evMrSlaAck
  | evMrSlaNack
  | evMrDataAck
  | evMrDataNack
  | evSrSlaAck
  | evSrGcallAck
  | evSrDataAck
  | evSrGcallDataAck
  | evSrStop
  | evStSlaAck
  | evStDataAck
  | evStDataNack
  | evUnrecognized (code : Byte)
  -- CMD (40_command_issuer)
  | start
  | stop
  | transmitData
  | transmitAck
  | transmitNack
  | enableSlaveReset
  -- HOST (44_transfer_initiation, 45_mode_and_queries)
  | setMode (m : Mode) (a : BitVec 7)
  | write (rs : Bool) (a : BitVec 7) (n : Nat) (p : List Byte)
  | writeText (rs : Bool) (a : BitVec 7) (n : Nat) (p : List Byte)
  | slaveStage (n : Nat) (p : List Byte)
  | read (rs : Bool) (a : BitVec 7) (n : Nat)
  | isReady
  | isAvailable
  | hostReserved
  deriving DecidableEq, Repr

end Sys2Proof
end

