-- ==== Sys2Proof/Config.lean ====
section
/-!
DEFINITION. What an implementation fixes (00_scope R5): the capacities, the length width and the two bindings, as plain
data that a state carries in its field `params`; and the one free value of the model, the contents of a buffer byte
that nothing has written (10_state R28, 93_implementation_defined U2).
-/

namespace Sys2Proof

/-- The parameter StatusBinding: the STATUS byte of each of the nineteen events (R5, R62, U14). -/
structure StatusBinding where
  startSent      : Byte
  repStartSent   : Byte
  mtSlaAck       : Byte
  mtSlaNack      : Byte
  mtDataAck      : Byte
  mtDataNack     : Byte
  arbLost        : Byte
  mrSlaAck       : Byte
  mrSlaNack      : Byte
  mrDataAck      : Byte
  mrDataNack     : Byte
  srSlaAck       : Byte
  srGcallAck     : Byte
  srDataAck      : Byte
  srGcallDataAck : Byte
  srStop         : Byte
  stSlaAck       : Byte
  stDataAck      : Byte
  stDataNack     : Byte
  deriving DecidableEq, Repr

/-- The byte a binding gives an event. -/
def StatusBinding.code (b : StatusBinding) : Event → Byte
  | .startSent => b.startSent
  | .repStartSent => b.repStartSent
  | .mtSlaAck => b.mtSlaAck
  | .mtSlaNack => b.mtSlaNack
  | .mtDataAck => b.mtDataAck
  | .mtDataNack => b.mtDataNack
  | .arbLost => b.arbLost
  | .mrSlaAck => b.mrSlaAck
  | .mrSlaNack => b.mrSlaNack
  | .mrDataAck => b.mrDataAck
  | .mrDataNack => b.mrDataNack
  | .srSlaAck => b.srSlaAck
  | .srGcallAck => b.srGcallAck
  | .srDataAck => b.srDataAck
  | .srGcallDataAck => b.srGcallDataAck
  | .srStop => b.srStop
  | .stSlaAck => b.stSlaAck
  | .stDataAck => b.stDataAck
  | .stDataNack => b.stDataNack

/-- The parameter CtlBinding: the control-signal pattern of each command (R5, R66, U14). -/
structure CtlBinding where
  start            : Byte
  stop             : Byte
  transmitData     : Byte
  transmitAck      : Byte
  transmitNack     : Byte
  enableSlaveReset : Byte
  deriving DecidableEq, Repr

/-- The pattern a binding gives a command. -/
def CtlBinding.pattern (b : CtlBinding) : Command → Byte
  | .start => b.start
  | .stop => b.stop
  | .transmitData => b.transmitData
  | .transmitAck => b.transmitAck
  | .transmitNack => b.transmitNack
  | .enableSlaveReset => b.enableSlaveReset

/-- The parameters of R5. -/
structure Params where
  txCap  : Nat
  rxCap  : Nat
  lenW   : Nat
  status : StatusBinding
  ctl    : CtlBinding
  deriving DecidableEq, Repr

/-- `TX_SIZE = TX_CAP + 1`: one address byte plus the payload (R5). -/
def Params.txSize (p : Params) : Nat := p.txCap + 1

/-- The two buffer spaces (20_memory R40). -/
inductive Space where
  | tx | rx
  deriving DecidableEq, Repr

/-- FREE VALUE (log 3): what the byte at an index of a buffer holds after the k-th reset when no rule has written it.
The spec leaves it "any value" (U2); nothing in Lean can evaluate it. -/
opaque Config.powerOnByte : Nat → Space → Nat → Byte

end Sys2Proof
end

