-- ==== Sys2Proof/WellFormed.lean ====
section
/-!
DEFINITION. Which parameters a block may be built with (00_scope R5, 93 U14) and which instructions a port word can
stand for (30_encoding R64, R67).
-/

namespace Sys2Proof

/-- `2^LEN_W > max(TX_SIZE, RX_CAP)` (R5), and the nineteen events have distinct bytes (U14). -/
def Params.Valid (p : Params) : Prop :=
  max p.txSize p.rxCap < 2 ^ p.lenW ∧ ∀ e f : Event, p.status.code e = p.status.code f → e = f

/-- A length fits the `LEN_W` bits of the host port (R5, R67). -/
def Params.lengthFits (p : Params) (n : Nat) : Bool := decide (n < 2 ^ p.lenW)

/-- The events, in the order of R62's table. -/
def allEvents : List Event :=
  [.startSent, .repStartSent, .mtSlaAck, .mtSlaNack, .mtDataAck, .mtDataNack, .arbLost, .mrSlaAck, .mrSlaNack,
   .mrDataAck, .mrDataNack, .srSlaAck, .srGcallAck, .srDataAck, .srGcallDataAck, .srStop, .stSlaAck, .stDataAck,
   .stDataNack]

/-- An instruction is well formed for parameters `p` if some word of its port stands for it: an unrecognised code is
none of the nineteen (R64), a length fits `LEN_W` bits and comes with as many payload bytes (R67). -/
def Instr.wellFormed (p : Params) : Instr → Bool
  | .evUnrecognized code => allEvents.all (fun e => decide (p.status.code e ≠ code))
  | .write _ _ n d => p.lengthFits n && decide (d.length = n)
  | .writeText _ _ n d => p.lengthFits n && decide (d.length = n)
  | .slaveStage n d => p.lengthFits n && decide (d.length = n)
  | .read _ _ n => p.lengthFits n
  | .evStartSent | .evRepStartSent | .evMtSlaAck | .evMtSlaNack | .evMtDataAck | .evMtDataNack | .evArbLost
  | .evMrSlaAck | .evMrSlaNack | .evMrDataAck | .evMrDataNack | .evSrSlaAck | .evSrGcallAck | .evSrDataAck
  | .evSrGcallDataAck | .evSrStop | .evStSlaAck | .evStDataAck | .evStDataNack => true
  | .start | .stop | .transmitData | .transmitAck | .transmitNack | .enableSlaveReset => true
  | .setMode _ _ | .isReady | .isAvailable | .hostReserved => true

end Sys2Proof
end

