-- ==== Sys2Proof/Decode.lean ====
section
/-!
DEFINITION. The encodings of 30_encoding: the default bindings (R62, R66), the command codes (R65), the decoder of the
three spaces (R60 to R69), total on every word and rejecting by name, and after it the encoder.
-/

namespace Sys2Proof

/-- The default StatusBinding: the codes of R62. -/
def defaultStatusBinding : StatusBinding where
  startSent      := 0x08#8
  repStartSent   := 0x10#8
  mtSlaAck       := 0x18#8
  mtSlaNack      := 0x20#8
  mtDataAck      := 0x28#8
  mtDataNack     := 0x30#8
  arbLost        := 0x38#8
  mrSlaAck       := 0x40#8
  mrSlaNack      := 0x48#8
  mrDataAck      := 0x50#8
  mrDataNack     := 0x58#8
  srSlaAck       := 0x60#8
  srGcallAck     := 0x70#8
  srDataAck      := 0x80#8
  srGcallDataAck := 0x90#8
  srStop         := 0xA0#8
  stSlaAck       := 0xA8#8
  stDataAck      := 0xB8#8
  stDataNack     := 0xC0#8

/-- The default CtlBinding: the patterns of R66. -/
def defaultCtlBinding : CtlBinding where
  start            := 0xA5#8
  stop             := 0x95#8
  transmitData     := 0x85#8
  transmitAck      := 0xC5#8
  transmitNack     := 0x85#8
  enableSlaveReset := 0xC5#8

/-- DESIGN CHOICE (log 1): the parameters of the spec's own examples, `TX_CAP = RX_CAP = 4`, `LEN_W = 16`, with the
default bindings (95_test_vectors; 92 D3). Statements hold for every value of the field `params`. -/
def defaultParams : Params where
  txCap  := 4
  rxCap  := 4
  lenW   := 16
  status := defaultStatusBinding
  ctl    := defaultCtlBinding

/-- The 3-bit code of a command (R65). -/
def commandCode : Command → BitVec 3
  | .start => 0#3
  | .stop => 1#3
  | .transmitData => 2#3
  | .transmitAck => 3#3
  | .transmitNack => 4#3
  | .enableSlaveReset => 5#3

/-- A word on one of the three ports (R60). -/
inductive PortWord where
  | ev (status : Byte)
  | cmd (code : BitVec 3)
  | host (w : HostWord)
  deriving DecidableEq, Repr

/-- Why a word stands for no instruction. -/
inductive DecodeError where
  /-- Raised by a CMD word 6 or 7, which are "never produced" (R65). Safe: the hardware has no such word. -/
  | reservedCommand
  /-- Raised by a request whose length needs more than `LEN_W` bits (R67). Safe: no host port carries it. -/
  | lengthTooWide
  /-- Raised by a request that carries more or fewer payload bytes than its `n` (R67). Safe: no host port carries it. -/
  | payloadLength
  deriving DecidableEq, Repr

/-- The instruction of a recognised event. -/
def eventInstr : Event → Instr
  | .startSent => .evStartSent
  | .repStartSent => .evRepStartSent
  | .mtSlaAck => .evMtSlaAck
  | .mtSlaNack => .evMtSlaNack
  | .mtDataAck => .evMtDataAck
  | .mtDataNack => .evMtDataNack
  | .arbLost => .evArbLost
  | .mrSlaAck => .evMrSlaAck
  | .mrSlaNack => .evMrSlaNack
  | .mrDataAck => .evMrDataAck
  | .mrDataNack => .evMrDataNack
  | .srSlaAck => .evSrSlaAck
  | .srGcallAck => .evSrGcallAck
  | .srDataAck => .evSrDataAck
  | .srGcallDataAck => .evSrGcallDataAck
  | .srStop => .evSrStop
  | .stSlaAck => .evStSlaAck
  | .stDataAck => .evStDataAck
  | .stDataNack => .evStDataNack

/-- The event a binding gives a STATUS byte, if it is one of the nineteen (R61: all 8 bits are compared). -/
def findEvent (b : StatusBinding) (code : Byte) : Option Event :=
  allEvents.find? (fun e => decide (b.code e = code))

/-- Decode of an EV word: the catch-all has the lowest priority (R62, R64). -/
def decodeEvent (b : StatusBinding) (code : Byte) : Instr :=
  match findEvent b code with
  | some e => eventInstr e
  | none => .evUnrecognized code

/-- Decode of a CMD word (R65). -/
def decodeCommand (code : BitVec 3) : Except DecodeError Instr :=
  match code.toNat with
  | 0 => .ok .start
  | 1 => .ok .stop
  | 2 => .ok .transmitData
  | 3 => .ok .transmitAck
  | 4 => .ok .transmitNack
  | 5 => .ok .enableSlaveReset
  | _ => .error .reservedCommand

/-- Header fields (R67); bits 10 to 8 and bit 7 are in none of them (R69). -/
def headerOp (h : BitVec 16) : BitVec 3 := h.extractLsb' 13 3
def headerRs (h : BitVec 16) : Bool := h.getLsbD 12
def headerM (h : BitVec 16) : Mode := if h.getLsbD 11 then .slave else .master
def headerA (h : BitVec 16) : BitVec 7 := h.extractLsb' 0 7

/-- The length must fit its port (R67). -/
def checkLength (p : Params) (n : Nat) (i : Instr) : Except DecodeError Instr :=
  if p.lengthFits n then .ok i else .error .lengthTooWide

/-- The length must fit its port and the payload have that many bytes (R67). -/
def checkPayload (p : Params) (n : Nat) (d : List Byte) (i : Instr) : Except DecodeError Instr :=
  if p.lengthFits n then (if d.length = n then .ok i else .error .payloadLength) else .error .lengthTooWide

/-- Decode of a HOST word (R67, R68, R69): a field the operation does not use is ignored. -/
def decodeHost (p : Params) (w : HostWord) : Except DecodeError Instr :=
  match (headerOp w.header).toNat with
  | 0 => .ok (.setMode (headerM w.header) (headerA w.header))
  | 1 => checkPayload p w.n w.payload (.write (headerRs w.header) (headerA w.header) w.n w.payload)
  | 2 => checkPayload p w.n w.payload (.writeText (headerRs w.header) (headerA w.header) w.n w.payload)
  | 3 => checkPayload p w.n w.payload (.slaveStage w.n w.payload)
  | 4 => checkLength p w.n (.read (headerRs w.header) (headerA w.header) w.n)
  | 5 => .ok .isReady
  | 6 => .ok .isAvailable
  | _ => .ok .hostReserved

/-- The decoder: total on every word of the three ports (R60), independent of `state` and `mode` (R74). -/
def decode (p : Params) : PortWord → Except DecodeError Instr
  | .ev code => .ok (decodeEvent p.status code)
  | .cmd code => decodeCommand code
  | .host w => decodeHost p w

/-- A header from its fields, the reserved bits and a[7] zero (R67, R69). -/
def hostHeader (op : BitVec 3) (rs : Bool) (m : Mode) (a : BitVec 7) : BitVec 16 :=
  (op.setWidth 16 <<< 13) ||| ((BitVec.ofBool rs).setWidth 16 <<< 12) |||
    ((BitVec.ofBool (decide (m = .slave))).setWidth 16 <<< 11) ||| a.setWidth 16

/-- A request word from its header and operands. -/
def hostWord (h : BitVec 16) (n : Nat) (d : List Byte) : PortWord := .host ⟨h, n, d⟩

/-- The encoder, written from the tables of R62, R65 and R67, R68. -/
def encode (p : Params) : Instr → PortWord
  | .evStartSent => .ev p.status.startSent
  | .evRepStartSent => .ev p.status.repStartSent
  | .evMtSlaAck => .ev p.status.mtSlaAck
  | .evMtSlaNack => .ev p.status.mtSlaNack
  | .evMtDataAck => .ev p.status.mtDataAck
  | .evMtDataNack => .ev p.status.mtDataNack
  | .evArbLost => .ev p.status.arbLost
  | .evMrSlaAck => .ev p.status.mrSlaAck
  | .evMrSlaNack => .ev p.status.mrSlaNack
  | .evMrDataAck => .ev p.status.mrDataAck
  | .evMrDataNack => .ev p.status.mrDataNack
  | .evSrSlaAck => .ev p.status.srSlaAck
  | .evSrGcallAck => .ev p.status.srGcallAck
  | .evSrDataAck => .ev p.status.srDataAck
  | .evSrGcallDataAck => .ev p.status.srGcallDataAck
  | .evSrStop => .ev p.status.srStop
  | .evStSlaAck => .ev p.status.stSlaAck
  | .evStDataAck => .ev p.status.stDataAck
  | .evStDataNack => .ev p.status.stDataNack
  | .evUnrecognized code => .ev code
  | .start => .cmd (commandCode .start)
  | .stop => .cmd (commandCode .stop)
  | .transmitData => .cmd (commandCode .transmitData)
  | .transmitAck => .cmd (commandCode .transmitAck)
  | .transmitNack => .cmd (commandCode .transmitNack)
  | .enableSlaveReset => .cmd (commandCode .enableSlaveReset)
  | .setMode m a => hostWord (hostHeader 0#3 false m a) 0 []
  | .write rs a n d => hostWord (hostHeader 1#3 rs .master a) n d
  | .writeText rs a n d => hostWord (hostHeader 2#3 rs .master a) n d
  | .slaveStage n d => hostWord (hostHeader 3#3 false .master 0#7) n d
  | .read rs a n => hostWord (hostHeader 4#3 rs .master a) n []
  | .isReady => hostWord (hostHeader 5#3 false .master 0#7) 0 []
  | .isAvailable => hostWord (hostHeader 6#3 false .master 0#7) 0 []
  | .hostReserved => hostWord (hostHeader 7#3 false .master 0#7) 0 []

/-- The request word whose bits are `w`: the header in bits 15..0, then `LEN_W` = 16 bits of `n`, then the payload
bytes, first byte lowest (log 7). -/
def tableHostWord (w : Nat) : HostWord :=
  let n := (w >>> 16) % 2 ^ 16
  ⟨BitVec.ofNat 16 w, n, (List.range n).map (fun j => BitVec.ofNat 8 (w >>> (32 + 8 * j)))⟩

/-- The port word of an opcode-table word (log 7): the table's three spaces share their low bit numbers, so the width
names the space: 16 bits or more HOST, fewer than 8 CMD; of 8 bits, the six values that a CMD row fixes are that
command, any other value is an EV word. -/
def tablePortWord (nbits w : Nat) : PortWord :=
  if 16 ≤ nbits then .host (tableHostWord w)
  else if nbits < 8 ∨ w < 6 then .cmd (BitVec.ofNat 3 w)
  else .ev (BitVec.ofNat 8 w)

/-- The instruction the decoder reads from an opcode-table word, under the default parameters. -/
def decodeTableWord (nbits w : Nat) : Option Instr :=
  match decode defaultParams (tablePortWord nbits w) with
  | .ok i => some i
  | .error _ => none

end Sys2Proof
end

