-- ==== Sys2Proof/Machine/State.lean ====
section
/-!
DEFINITION. The machine's state as plain data: every register and buffer of 10_state R10, the hidden state of R26, the
observation of R7 and R29, and the inputs of the step relation (00_scope R6, R7) as lists; and the state after reset
(R28).
-/

namespace Sys2Proof.Machine

/-- BusState, seven values (R11), in the order of R72. -/
inductive BusState where
  | available | initializing | repeatedStartSent | masterTransmitting | masterReceiving | slaveTransmitting
  | slaveReceiving
  deriving DecidableEq, Repr

/-- A buffer's written bytes: (index, byte), indices strictly rising (20_memory R40). -/
abbrev Memory := List Host.Cell

/-- An item of the output trace (R29). -/
inductive OutItem where
  | data (b : Byte)
  | cmd (c : Command)
  | addr (v : Byte)
  | arm
  deriving DecidableEq, Repr

/-- A value returned to the host (R68): `ok`, a query's bit, or READ's bytes. -/
inductive Reply where
  | ok (accepted : Bool)
  | flag (bit : Bool)
  | bytes (out : List Byte)
  deriving DecidableEq, Repr

/-- The host's open request (R26 b, c): held behind its guard (R135), or a READ of `n` bytes between its two phases
(R141, R142). -/
inductive OpenRequest where
  | held (i : Instr)
  | reading (n : Nat)
  deriving DecidableEq, Repr

/-- Who moves next (R6, R52), with the environment's draws (R192): the environment delivers an event, choosing STATUS
and DATA; the host takes its turn; `rst` is asserted (R180); or the Command Issuer's own port is driven (log 8). -/
inductive Turn where
  | event (code din : Byte)
  | host
  | issue (code : BitVec 3)
  | rst
  deriving DecidableEq, Repr

/-- How the machine can stop with a fault. -/
inductive Fault where
  /-- Raised by `txPush`, `slavePush`: the byte at the TX cursor is outside `txBuf[0 .. TX_SIZE-1]`. Only in states
  that R30 rules out (log 10). Safe: no reachable state of the hardware raises it. -/
  | txOutOfRange
  /-- Raised by `rxAppend` and READ's copy-out: outside `rxBuf[0 .. RX_CAP-1]`. Only in states that R30 rules out
  (log 10). Safe: no reachable state of the hardware raises it. -/
  | rxOutOfRange
  deriving DecidableEq, Repr

/-- Why an instruction has no step. -/
inductive Refusal where
  /-- Raised by `exec`'s arm of an instruction without a meaning; none is left. Safe. -/
  | notModelled (mnemonic : String)
  /-- Raised by SET_MODE unless `state = Available` (R151, U1: "A model refuses the request"). Safe (log 11). -/
  | setModeOutsideAvailable
  /-- Raised by `step` on a word no port can carry (R65, R67). Safe (log 12). -/
  | noSuchWord (e : DecodeError)
  deriving DecidableEq, Repr

/-- The state. `params`, `turns`, `requests` are inputs of the step relation (R7), `trace` and `replies` its
observation; `resets` is the model's own (log 3); the rest is the block's (R10, R26). -/
structure State where
  params    : Params
  busState  : BusState
  repStart  : Bool
  lastErr   : Option Byte
  txBuf     : Memory
  txIndex   : Nat
  txLen     : Nat
  rxBuf     : Memory
  rxIndex   : Nat
  rxLen     : Nat
  mode      : Mode
  addrMatch : Byte
  data      : Byte
  ctl       : Byte
  cmd       : Option (BitVec 3)
  pending   : Bool
  openReq   : Option OpenRequest
  trace     : List OutItem
  replies   : List Reply
  requests  : List HostWord
  turns     : List Turn
  resets    : Nat
  deriving DecidableEq, Repr

/-- What a step or a meaning answers. -/
abbrev Res := Host.Outcome State Fault Refusal

/-- The state after reset of a block with parameters `p` (R28, R172). DATA's value is the model's (log 4). -/
def State.resetWith (p : Params) : State where
  params    := p
  busState  := .available
  repStart  := false
  lastErr   := none
  txBuf     := []
  txIndex   := 0
  txLen     := 0
  rxBuf     := []
  rxIndex   := 0
  rxLen     := 0
  mode      := .master
  addrMatch := 0x00#8
  data      := 0x00#8
  ctl       := 0x00#8
  cmd       := none
  pending   := false
  openReq   := none
  trace     := []
  replies   := []
  requests  := []
  turns     := []
  resets    := 0

/-- The state after reset, with the parameters of the spec's examples (log 1). -/
def State.reset : State := State.resetWith defaultParams

end Sys2Proof.Machine
end

