-- ==== Sys2Proof/Machine/Flags.lean ====
section
/-!
DEFINITION. The flag-like conditions of the block (10_state R25) and the comparisons of 41_buffer_controller R97: each
test of a guard or tail once, by name.
-/

namespace Sys2Proof.Machine

/-- `available`: `state = Available` (R25, R153). -/
def State.available (s : State) : Bool := decide (s.busState = .available)

/-- `ready`: `state = Available or state = RepeatedStartSent` (R25, R135, R152). -/
def State.ready (s : State) : Bool := decide (s.busState = .available ∨ s.busState = .repeatedStartSent)

/-- `txIndex < txLen`: a staged byte is left to send (R90, R92, R101). -/
def State.moreToSend (s : State) : Bool := decide (s.txIndex < s.txLen)

/-- `rxIndex < rxLen`: a received byte is stored (R94). -/
def State.roomToReceive (s : State) : Bool := decide (s.rxIndex < s.rxLen)

/-- `rxIndex + 1 < rxLen`: more than one byte remains (R95); a natural, so it does not wrap (R97). -/
def State.moreThanOneLeft (s : State) : Bool := decide (s.rxIndex + 1 < s.rxLen)

/-- `n > TX_CAP`: WRITE's capacity check fails (R137, R138). -/
def State.oversizedTx (s : State) (n : Nat) : Bool := decide (s.params.txCap < n)

/-- `n > RX_CAP`: READ's capacity check fails (R137, R141). -/
def State.oversizedRx (s : State) (n : Nat) : Bool := decide (s.params.rxCap < n)

/-- `rxIndex = n`: READ's completion guard (R142). -/
def State.readComplete (s : State) (n : Nat) : Bool := decide (s.rxIndex = n)

end Sys2Proof.Machine
end

