-- ==== Sys2Proof/Machine/Operands.lean ====
section
/-!
DEFINITION. Operand assembly (30_encoding R70, R71; 10_state R19): the address byte, the slave address byte, the
clamped length, and the bytes staged for a transfer.
-/

namespace Sys2Proof.Machine

/-- `SLA_W(a) = (a[6:0], 0)` (R70). -/
def slaW (a : BitVec 7) : Byte := a.setWidth 8 <<< 1

/-- `SLA_R(a) = (a[6:0], 1)` (R70). -/
def slaR (a : BitVec 7) : Byte := (a.setWidth 8 <<< 1) ||| 1#8

/-- The value SET_MODE(Slave) latches into ADDRMATCH: own address, general call enabled (R19, R150). -/
def ownAddress (a : BitVec 7) : Byte := (a.setWidth 8 <<< 1) ||| 1#8

/-- `min(n, TX_CAP)`: the length WRITE_TEXT and SLAVE_STAGE use (R71, R139, R140). -/
def State.clampTx (s : State) (n : Nat) : Nat := min n s.params.txCap

/-- The bytes staged by a master transfer: the address byte, then the first `n` payload bytes (R93). -/
def stagedBytes (b0 : Byte) (p : List Byte) (n : Nat) : List Byte := b0 :: p.take n

end Sys2Proof.Machine
end

