-- ==== Sys2Proof/Machine/Ops.lean ====
section
/-!
DEFINITION. The named operations over buffers and registers: memory, the Command Issuer's `issue` (40_command_issuer
R80), the primitives of the Transfer Buffer controller (41_buffer_controller R90 to R96), the shared tails of the Bus
State Machine (42_bsm_master R101, R107, R110; 43_bsm_slave R128) and the shared parts of Transfer Initiation
(44_transfer_initiation R135, R136). The block takes no exception (60_exceptions R160, R169, R170): what stands in its
place is `recordError` with a local recovery in the same step (`failStop`, `catchAll`).
-/

namespace Sys2Proof.Machine

/-! ### Memory -/

/-- The byte written at an index, none if nothing was written there. -/
def Memory.read? : Memory → Nat → Option Byte
  | [], _ => none
  | (i, b) :: m, j => if i = j then some b else Memory.read? m j

/-- Writes one byte (R41), keeping the indices strictly rising. -/
def Memory.write : Memory → Nat → Byte → Memory
  | [], j, c => [(j, c)]
  | (i, b) :: m, j, c =>
    if j < i then (j, c) :: (i, b) :: m
    else if j = i then (j, c) :: m
    else (i, b) :: Memory.write m j c

/-- Writes consecutive bytes at ascending indices (R41). -/
def Memory.writeBytes : Memory → Nat → List Byte → Memory
  | m, _, [] => m
  | m, j, c :: cs => Memory.writeBytes (Memory.write m j c) (j + 1) cs

/-- Every index is above `lo`, and the indices rise strictly. -/
def Memory.risingFrom : Option Nat → Memory → Bool
  | _, [] => true
  | lo, (i, _) :: m => (match lo with | none => true | some l => decide (l < i)) && Memory.risingFrom (some i) m

/-- The canonical form for a buffer of `size` bytes: indices strictly rising, all below `size`. An unlisted index holds
no written byte, so no entry equals what an unlisted index holds. -/
def Memory.wf (size : Nat) (m : Memory) : Bool :=
  Memory.risingFrom none m && m.all (fun c => decide (c.1 < size))

/-- The physical size of a space (R40). -/
def State.spaceSize (s : State) : Space → Nat
  | .tx => s.params.txSize
  | .rx => s.params.rxCap

/-- What `txBuf[i]` holds: the byte written, or the free value of an unwritten byte (log 3). -/
def State.txAt (s : State) (i : Nat) : Byte := (Memory.read? s.txBuf i).getD (Config.powerOnByte s.resets .tx i)

/-- What `rxBuf[i]` holds: the byte written, or the free value of an unwritten byte (log 3). -/
def State.rxAt (s : State) (i : Nat) : Byte := (Memory.read? s.rxBuf i).getD (Config.powerOnByte s.resets .rx i)

/-- `MemRead(space, i, 1)` (R9, R41): none where the space has no such byte (R40). -/
def State.memRead (s : State) (sp : Space) (i : Nat) : Option Byte :=
  if i < s.spaceSize sp then (match sp with | .tx => some (s.txAt i) | .rx => some (s.rxAt i)) else none

/-- `MemWrite(RX, i, 1, b)` (R9, R41): none where the space has no such byte (R40). The handler never writes TX (R42),
so RX is the one space a single byte is written to. -/
def State.rxWrite (s : State) (i : Nat) (b : Byte) : Option State :=
  if i < s.spaceSize .rx then some { s with rxBuf := Memory.write s.rxBuf i b } else none

/-! ### Registers and ports -/

/-- `state <- b` (R9). -/
def State.setBus (s : State) (b : BusState) : State := { s with busState := b }

/-- `txIndex <- i`. -/
def State.setTxIndex (s : State) (i : Nat) : State := { s with txIndex := i }

/-- `rxIndex <- i`. -/
def State.setRxIndex (s : State) (i : Nat) : State := { s with rxIndex := i }

/-- `rxLen <- n`. -/
def State.setRxLen (s : State) (n : Nat) : State := { s with rxLen := n }

/-- `repStart <- b`. -/
def State.setRepStart (s : State) (b : Bool) : State := { s with repStart := b }

/-- `mode <- m`. -/
def State.setMode (s : State) (m : Mode) : State := { s with mode := m }

/-- The host's open request becomes `r`. -/
def State.setOpen (s : State) (r : Option OpenRequest) : State := { s with openReq := r }

/-- `DATA <- b`: appends `OutData(b)` (R9, R29). -/
def State.writeData (s : State) (b : Byte) : State := { s with data := b, trace := s.trace ++ [.data b] }

/-- `issue(c)` (R80): drives `cmd`, writes CTL, appends `OutCmd(c)`; the command dismisses the pending event (R165). -/
def State.issue (s : State) (c : Command) : State :=
  { s with cmd := some (commandCode c), ctl := s.params.ctl.pattern c, pending := false, trace := s.trace ++ [.cmd c] }

/-- `ADDRMATCH <- v`: appends `OutAddr(v)` (R19, R29). -/
def State.writeAddr (s : State) (v : Byte) : State := { s with addrMatch := v, trace := s.trace ++ [.addr v] }

/-- The arming pattern of SET_MODE(Master): `CTL <- 0x05`, appends `OutArm`; no command, no `go` bit (R87, R150). -/
def State.arm (s : State) : State := { s with ctl := 0x05#8, trace := s.trace ++ [.arm] }

/-- `record_error(code)`: `lastErr <- Some(code)` (R9, R161). -/
def State.recordError (s : State) (code : Byte) : State := { s with lastErr := some code }

/-- `return v`: the value driven on the host port's response (R9). -/
def State.reply (s : State) (r : Reply) : State := { s with replies := s.replies ++ [r] }

/-- The request stays presented, unchanged (R9 "held until", R135). -/
def State.hold (s : State) (i : Instr) : State := s.setOpen (some (.held i))

/-! ### Buffer primitives -/

/-- TxRewind (R91). -/
def State.txRewind (s : State) : State := s.setTxIndex 0

/-- RxRewind (R96). -/
def State.rxRewind (s : State) : State := s.setRxIndex 0

/-- StageTx(b0, p, n) (R93). -/
def State.stageTx (s : State) (b0 : Byte) (p : List Byte) (n : Nat) : State :=
  { s with txBuf := Memory.writeBytes s.txBuf 0 (stagedBytes b0 p n), txLen := n + 1, txIndex := 0 }

/-- StageSlaveTx(p, k) (R93). -/
def State.stageSlaveTx (s : State) (p : List Byte) (k : Nat) : State :=
  { s with txBuf := Memory.writeBytes s.txBuf 0 (p.take k), txLen := k, txIndex := 0 }

/-- StageRx(n) (R96). -/
def State.stageRx (s : State) (n : Nat) : State := { s with rxIndex := 0, rxLen := n }

/-- Continues with `f` after a next state; a fault or refusal ends the rule. -/
def andThen (r : Res) (f : State → Res) : Res :=
  match r with
  | .next s => f s
  | .fault e => .fault e
  | .refused e => .refused e

/-- TxPush (R90): the byte at the TX cursor goes to DATA, the cursor moves on, TRANSMIT_DATA is issued. -/
def State.txPush (s : State) : Res :=
  match s.memRead .tx s.txIndex with
  | some b => .next (((s.writeData b).setTxIndex (s.txIndex + 1)).issue .transmitData)
  | none => .fault .txOutOfRange

/-- SlavePush (R92): the next staged byte, or 0x00 if exhausted, then ENABLE_SLAVE_RESET. -/
def State.slavePush (s : State) : Res :=
  if s.moreToSend then
    match s.memRead .tx s.txIndex with
    | some b => .next (((s.writeData b).setTxIndex (s.txIndex + 1)).issue .enableSlaveReset)
    | none => .fault .txOutOfRange
  else .next ((s.writeData 0x00#8).issue .enableSlaveReset)

/-- RxAppend(b) (R94): stores while `rxIndex < rxLen`, else discards. -/
def State.rxAppend (s : State) (b : Byte) : Res :=
  if s.roomToReceive then
    match s.rxWrite s.rxIndex b with
    | some t => .next (t.setRxIndex (s.rxIndex + 1))
    | none => .fault .rxOutOfRange
  else .next s

/-- RxAckChoice (R95). -/
def State.rxAckChoice (s : State) : State :=
  if s.moreThanOneLeft then s.issue .transmitAck else s.issue .transmitNack

/-! ### Shared tails of the Bus State Machine -/

/-- The completion path (R101, R107, R109): START when a repeated start was requested, else Available and STOP. -/
def State.complete (s : State) : State :=
  if s.repStart then s.issue .start else (s.setBus .available).issue .stop

/-- TxNextOrComplete (R101). -/
def State.txNextOrComplete (s : State) : Res := if s.moreToSend then s.txPush else .next s.complete

/-- The fail-stop group (R110): the code is recorded, the bus Available, STOP issued. -/
def State.failStop (s : State) (code : Byte) : State := ((s.recordError code).setBus .available).issue .stop

/-- The catch-all (R128): the code is recorded, the bus Available, the reset command issued. -/
def State.catchAll (s : State) (code : Byte) : State :=
  ((s.recordError code).setBus .available).issue .enableSlaveReset

/-- Back to listening (R123, R126): Available, then ENABLE_SLAVE_RESET. -/
def State.release (s : State) : State := (s.setBus .available).issue .enableSlaveReset

/-- Slave address match as receiver (R124). -/
def State.slaveReceive (s : State) : State :=
  ((s.rxRewind.setRxLen s.params.rxCap).setBus .slaveReceiving).issue .transmitAck

/-- Slave data byte (R125): stored if there is room, always acknowledged. -/
def State.slaveStore (s : State) : Res := andThen (s.rxAppend s.data) (fun t => .next (t.issue .transmitAck))

/-! ### Transfer Initiation -/

/-- A transfer request's guard (R135): test and effect are one step; while `Ready` is false the request is held. -/
def State.whenReady (s : State) (i : Instr) (effect : State → Res) : Res :=
  if s.ready then effect s else .next (s.hold i)

/-- Initiate(b0, p, n, rs) (R136), run when `Ready` holds: bridging after a repeated START, else START. -/
def State.initiate (s : State) (b0 : Byte) (p : List Byte) (n : Nat) (rs : Bool) : State :=
  let t := (s.stageTx b0 p n).setRepStart rs
  if s.busState = .repeatedStartSent then
    (((t.setBus .initializing).writeData (t.txAt 0)).setTxIndex 1).issue .transmitData
  else (t.setBus .initializing).issue .start

end Sys2Proof.Machine
end

