-- ==== Sys2Proof/Machine/Commands.lean ====
section
/-!
DEFINITION. The six commands of the Command Issuer (40_command_issuer R81 to R86): each is `issue(c)` of R80.
-/

namespace Sys2Proof.Machine

/-- START (R81). -/
def execStart (s : State) : Res := .next (s.issue .start)

/-- STOP (R82). -/
def execStop (s : State) : Res := .next (s.issue .stop)

/-- TRANSMIT_DATA (R83): of the byte already in DATA. -/
def execTransmitData (s : State) : Res := .next (s.issue .transmitData)

/-- TRANSMIT_ACK (R84). -/
def execTransmitAck (s : State) : Res := .next (s.issue .transmitAck)

/-- TRANSMIT_NACK (R85). -/
def execTransmitNack (s : State) : Res := .next (s.issue .transmitNack)

/-- ENABLE_SLAVE_RESET (R86). -/
def execEnableSlaveReset (s : State) : Res := .next (s.issue .enableSlaveReset)

end Sys2Proof.Machine
end

