-- ==== Sys2Proof/Machine/Master.lean ====
section
/-!
DEFINITION. The Bus State Machine's master-side events (42_bsm_master). Each rule is chosen by the event alone (R100);
none reads `state` or `mode`. The code an error rule records is the event's own STATUS byte (R161, log 16).
-/

namespace Sys2Proof.Machine

/-- EV_START_SENT (R102): rewind, then the shared tail, which sends the address byte. -/
def execEvStartSent (s : State) : Res := s.txRewind.txNextOrComplete

/-- EV_REP_START_SENT (R103): no command is issued. -/
def execEvRepStartSent (s : State) : Res := .next (s.txRewind.setBus .repeatedStartSent)

/-- EV_MT_SLA_ACK (R104). -/
def execEvMtSlaAck (s : State) : Res := (s.setBus .masterTransmitting).txNextOrComplete

/-- EV_MR_SLA_ACK (R105): no byte is stored. -/
def execEvMrSlaAck (s : State) : Res := .next (s.setBus .masterReceiving).rxAckChoice

/-- EV_MT_DATA_ACK (R106). -/
def execEvMtDataAck (s : State) : Res := s.txNextOrComplete

/-- EV_MT_DATA_NACK (R107): DataNotAcknowledged is recorded, the chain goes on if a repeated start was requested
(90_conflicts C3). -/
def execEvMtDataNack (s : State) : Res := .next (s.recordError (s.params.status.code .mtDataNack)).complete

/-- EV_MR_DATA_ACK (R108): the byte is stored, then ACK or NACK by the new cursor. -/
def execEvMrDataAck (s : State) : Res := andThen (s.rxAppend s.data) (fun t => .next t.rxAckChoice)

/-- EV_MR_DATA_NACK (R109): the final byte. -/
def execEvMrDataNack (s : State) : Res := andThen (s.rxAppend s.data) (fun t => .next t.complete)

/-- EV_MT_SLA_NACK (R110): AddressNotAcknowledged. -/
def execEvMtSlaNack (s : State) : Res := .next (s.failStop (s.params.status.code .mtSlaNack))

/-- EV_MR_SLA_NACK (R110): AddressNotAcknowledged. -/
def execEvMrSlaNack (s : State) : Res := .next (s.failStop (s.params.status.code .mrSlaNack))

/-- EV_ARB_LOST (R110): ArbitrationLost. -/
def execEvArbLost (s : State) : Res := .next (s.failStop (s.params.status.code .arbLost))

end Sys2Proof.Machine
end

