-- ==== Sys2Proof/Machine/Modes.lean ====
section
/-!
DEFINITION. Mode Configuration, the two queries, the reserved request (45_mode_and_queries; 30_encoding R69), and the
host's status views (R154).
-/

namespace Sys2Proof.Machine

/-- What SET_MODE clears in either mode (R150): both cursors, both lengths, `repStart`; `state` becomes Available. -/
def State.clearTransfer (s : State) : State :=
  { s with txIndex := 0, txLen := 0, rxIndex := 0, rxLen := 0, busState := .available, repStart := false }

/-- The effect of SET_MODE (R150). -/
def State.configure (s : State) (m : Mode) (a : BitVec 7) : State :=
  match m with
  | .master => ((s.clearTransfer.setMode .master).writeAddr 0x00#8).arm
  | .slave => ((s.clearTransfer.setMode .slave).writeAddr (ownAddress a)).issue .enableSlaveReset

/-- SET_MODE (R150): its step exists only while `state = Available` (R151, U1). -/
def execSetMode (m : Mode) (a : BitVec 7) (s : State) : Res :=
  if s.available then .next (s.configure m a) else .refused .setModeOutsideAvailable

/-- IS_READY (R152). -/
def execIsReady (s : State) : Res := .next (s.reply (.flag s.ready))

/-- IS_AVAILABLE (R153). -/
def execIsAvailable (s : State) : Res := .next (s.reply (.flag s.available))

/-- HOST op 7 (R69): no state change, no command, `ok = 0`. -/
def execHostReserved (s : State) : Res := .next (s.reply (.ok false))

/-! ### Status views (R154), encoded as the host port shows them -/

/-- The 3-bit code of a BusState (R72); 7 is never read back. -/
def busCode : BusState → BitVec 3
  | .available => 0#3
  | .initializing => 1#3
  | .repeatedStartSent => 2#3
  | .masterTransmitting => 3#3
  | .masterReceiving => 4#3
  | .slaveTransmitting => 5#3
  | .slaveReceiving => 6#3

/-- The 1-bit code of a mode (R73). -/
def modeCode : Mode → BitVec 1
  | .master => 0#1
  | .slave => 1#1

/-- The view of `state` (R154). -/
def State.stateView (s : State) : BitVec 3 := busCode s.busState

/-- The view of `lastErr` (R154, R13). -/
def State.lastErrView (s : State) : Option Byte := s.lastErr

/-- The view of `rxIndex` (R154). -/
def State.rxIndexView (s : State) : Nat := s.rxIndex

/-- The view of `rxBuf[0 .. rxIndex-1]` (R154). -/
def State.rxView (s : State) : List Byte := (List.range s.rxIndex).map s.rxAt

end Sys2Proof.Machine
end

