-- ==== Sys2Proof/Machine/Slave.lean ====
section
/-!
DEFINITION. The Bus State Machine's slave-side events and the catch-all (43_bsm_slave). "re-arm acknowledge" is
TRANSMIT_ACK, "re-arm as addressable slave" is ENABLE_SLAVE_RESET (R120).
-/

namespace Sys2Proof.Machine

/-- EV_ST_SLA_ACK (R121): rewind, SlaveTransmitting, the first staged byte. -/
def execEvStSlaAck (s : State) : Res := (s.txRewind.setBus .slaveTransmitting).slavePush

/-- EV_ST_DATA_ACK (R122). -/
def execEvStDataAck (s : State) : Res := s.slavePush

/-- EV_ST_DATA_NACK (R123): no error is recorded. -/
def execEvStDataNack (s : State) : Res := .next s.release

/-- EV_SR_SLA_ACK (R124): own address. -/
def execEvSrSlaAck (s : State) : Res := .next s.slaveReceive

/-- EV_SR_GCALL_ACK (R124): general call. -/
def execEvSrGcallAck (s : State) : Res := .next s.slaveReceive

/-- EV_SR_DATA_ACK (R125). -/
def execEvSrDataAck (s : State) : Res := s.slaveStore

/-- EV_SR_GCALL_DATA_ACK (R125). -/
def execEvSrGcallDataAck (s : State) : Res := s.slaveStore

/-- EV_SR_STOP (R126): the RX cursor and length are kept. -/
def execEvSrStop (s : State) : Res := .next s.release

/-- EV_UNRECOGNIZED (R128). -/
def execEvUnrecognized (code : Byte) (s : State) : Res := .next (s.catchAll code)

end Sys2Proof.Machine
end

