-- ==== Sys2Proof/Machine/Transfer.lean ====
section
/-!
DEFINITION. Transfer Initiation (44_transfer_initiation): WRITE, WRITE_TEXT, SLAVE_STAGE and the two phases of READ.
The capacity check comes first and does not wait (R137); then the guard (R135).
-/

namespace Sys2Proof.Machine

/-- WRITE (R138). -/
def execWrite (rs : Bool) (a : BitVec 7) (n : Nat) (p : List Byte) (s : State) : Res :=
  if s.oversizedTx n then .next (s.reply (.ok false))
  else s.whenReady (.write rs a n p) (fun t => .next ((t.initiate (slaW a) p n rs).reply (.ok true)))

/-- WRITE_TEXT (R139): the length is clamped, no failure, no response. -/
def execWriteText (rs : Bool) (a : BitVec 7) (n : Nat) (p : List Byte) (s : State) : Res :=
  s.whenReady (.writeText rs a n p) (fun t => .next (t.initiate (slaW a) p (t.clampTx n) rs))

/-- SLAVE_STAGE (R140): no command, `state`, `repStart` and DATA are not written. -/
def execSlaveStage (n : Nat) (p : List Byte) (s : State) : Res :=
  s.whenReady (.slaveStage n p) (fun t => .next (t.stageSlaveTx p (t.clampTx n)))

/-- READ, phase 1 (R141): RX is staged and the transfer initiated in one step; the request stays open. -/
def execRead (rs : Bool) (a : BitVec 7) (n : Nat) (s : State) : Res :=
  if s.oversizedRx n then .next (s.reply (.ok false))
  else s.whenReady (.read rs a n) (fun t =>
    .next ((((t.stageRx n).initiate (slaR a) [] 0 rs).reply (.ok true)).setOpen (some (.reading n))))

/-- The first `n` bytes of `rxBuf`, none where one is outside the buffer. -/
def State.copyOut (s : State) (n : Nat) : Option (List Byte) :=
  if n ≤ s.params.rxCap then some ((List.range n).map s.rxAt) else none

/-- READ, phase 2 (R142): held until `rxIndex = n`, whatever `state` is (R185); then the bytes are copied out and the
request returns. -/
def readCompletion (n : Nat) (s : State) : Res :=
  if s.readComplete n then
    match s.copyOut n with
    | some out => .next ((s.reply (.bytes out)).setOpen none)
    | none => .fault .rxOutOfRange
  else .next s

end Sys2Proof.Machine
end

