-- ==== Sys2Proof/Machine/Dispatch.lean ====
section
/-!
DEFINITION. One arm per row of the opcode table, each one direct call of that instruction's meaning.
-/

namespace Sys2Proof.Machine

def exec (i : Instr) (s : State) : Host.Outcome State Fault Refusal :=
  match i with
  -- EV
  | .evStartSent => Sys2Proof.Machine.execEvStartSent s
  | .evRepStartSent => Sys2Proof.Machine.execEvRepStartSent s
  | .evMtSlaAck => Sys2Proof.Machine.execEvMtSlaAck s
  | .evMtSlaNack => Sys2Proof.Machine.execEvMtSlaNack s
  | .evMtDataAck => Sys2Proof.Machine.execEvMtDataAck s
  | .evMtDataNack => Sys2Proof.Machine.execEvMtDataNack s
  | .evArbLost => Sys2Proof.Machine.execEvArbLost s
  | .evMrSlaAck => Sys2Proof.Machine.execEvMrSlaAck s
  | .evMrSlaNack => Sys2Proof.Machine.execEvMrSlaNack s
  | .evMrDataAck => Sys2Proof.Machine.execEvMrDataAck s
  | .evMrDataNack => Sys2Proof.Machine.execEvMrDataNack s
  | .evSrSlaAck => Sys2Proof.Machine.execEvSrSlaAck s
  | .evSrGcallAck => Sys2Proof.Machine.execEvSrGcallAck s
  | .evSrDataAck => Sys2Proof.Machine.execEvSrDataAck s
  | .evSrGcallDataAck => Sys2Proof.Machine.execEvSrGcallDataAck s
  | .evSrStop => Sys2Proof.Machine.execEvSrStop s
  | .evStSlaAck => Sys2Proof.Machine.execEvStSlaAck s
  | .evStDataAck => Sys2Proof.Machine.execEvStDataAck s
  | .evStDataNack => Sys2Proof.Machine.execEvStDataNack s
  | .evUnrecognized code => Sys2Proof.Machine.execEvUnrecognized code s
  -- CMD
  | .start => Sys2Proof.Machine.execStart s
  | .stop => Sys2Proof.Machine.execStop s
  | .transmitData => Sys2Proof.Machine.execTransmitData s
  | .transmitAck => Sys2Proof.Machine.execTransmitAck s
  | .transmitNack => Sys2Proof.Machine.execTransmitNack s
  | .enableSlaveReset => Sys2Proof.Machine.execEnableSlaveReset s
  -- HOST
  | .setMode m a => Sys2Proof.Machine.execSetMode m a s
  | .write rs a n p => Sys2Proof.Machine.execWrite rs a n p s
  | .writeText rs a n p => Sys2Proof.Machine.execWriteText rs a n p s
  | .slaveStage n p => Sys2Proof.Machine.execSlaveStage n p s
  | .read rs a n => Sys2Proof.Machine.execRead rs a n s
  | .isReady => Sys2Proof.Machine.execIsReady s
  | .isAvailable => Sys2Proof.Machine.execIsAvailable s
  | .hostReserved => Sys2Proof.Machine.execHostReserved s

end Sys2Proof.Machine
end

