-- ==== Sys2Proof/Machine/Fetch.lean ====
section
/-!
DEFINITION. What a step runs: the next turn of the interleaving (20_memory R52) turned into an instruction and the state
it runs on, or into a step that runs no instruction (READ's completion, `rst`, an agent with nothing to do).
-/

namespace Sys2Proof.Machine

/-- A step either runs an instruction or is one of the machine's own. -/
inductive Fetched where
  | run (i : Instr) (s : State)
  | other (r : Res)

/-- The start of a step: the turn is taken, the command strobe is low (R22, log 9). -/
def State.beginTurn (s : State) (ts : List Turn) : State := { s with turns := ts, cmd := none }

/-- The BIU raises an event (R100, R192): DATA holds what the environment chose (R20), the event is pending (R165). -/
def State.deliver (s : State) (din : Byte) : State := { s with data := din, pending := true }

/-- `rst` (R180): the block's state is that of R28, buffer contents unspecified anew; the host, its open request and
the inputs are not the block's (log 5). -/
def State.assertReset (s : State) : State :=
  { State.resetWith s.params with
    openReq := s.openReq, replies := s.replies, requests := s.requests, turns := s.turns, resets := s.resets + 1 }

/-- The instruction of a port word, or the refusal of a word no port can carry (log 12). -/
def fetchWord (w : PortWord) (s : State) : Fetched :=
  match decode s.params w with
  | .ok i => .run i s
  | .error e => .other (.refused (.noSuchWord e))

/-- The host's turn (R143): its open request is tried again (R135, R142), else the next request is presented; with no
request left the host does nothing. -/
def fetchHost (s : State) : Fetched :=
  match s.openReq with
  | some (.held i) => .run i (s.setOpen none)
  | some (.reading n) => .other (readCompletion n s)
  | none =>
    match s.requests with
    | w :: ws => fetchWord (.host w) { s with requests := ws }
    | [] => .other (.next s)

/-- The next turn (R52); with none scheduled no agent moves (log 6). -/
def fetch (s : State) : Fetched :=
  match s.turns with
  | [] => .other (.next (s.beginTurn []))
  | .event code din :: ts => fetchWord (.ev code) ((s.beginTurn ts).deliver din)
  | .issue code :: ts => fetchWord (.cmd code) (s.beginTurn ts)
  | .host :: ts => fetchHost (s.beginTurn ts)
  | .rst :: ts => .other (.next (s.beginTurn ts).assertReset)

/-- `s` with a port word placed where the next step takes it (log 7): an event with DATA as it stands, a command, or
the host's next request with no request open. -/
def State.place (s : State) : PortWord → State
  | .ev code => { s with turns := .event code s.data :: s.turns }
  | .cmd code => { s with turns := .issue code :: s.turns }
  | .host w => { s with turns := .host :: s.turns, requests := w :: s.requests, openReq := none }

end Sys2Proof.Machine
end

