-- ==== Sys2Proof/Machine/Step.lean ====
section
/-!
DEFINITION. One step of the machine: the next turn is fetched and its instruction run (20_memory R52), and the placing
of one table word where the next step takes it.
-/

namespace Sys2Proof.Machine

/-- One atomic step (R50, R52). -/
def step (s : State) : Host.Outcome State Fault Refusal :=
  match fetch s with
  | .run i t => exec i t
  | .other r => r

/-- `s` with one table word placed where the next step takes it (log 7). -/
def State.withFetchWord (s : State) (nbits w : Nat) : State := s.place (tablePortWord nbits w)

end Sys2Proof.Machine
end

