-- ==== Sys2Proof/Safety.lean ====
section
/-!
DEFINITION. What counts as a safe state and a safe step, in the terms the statements use: the invariants of 10_state R30
and 70_reset_and_hazards R181, the summaries of 10_state R27 and 60_exceptions R161 as functions of the state before,
the shapes of one step's output (20_memory R51), and the end of a run (R191).
-/

namespace Sys2Proof.Safety

open Sys2Proof.Machine

/-! ### Kinds of instruction -/

/-- The EV rows: what the handler runs (R172). -/
def isEvent : Instr → Bool
  | .evStartSent | .evRepStartSent | .evMtSlaAck | .evMtSlaNack | .evMtDataAck | .evMtDataNack | .evArbLost
  | .evMrSlaAck | .evMrSlaNack | .evMrDataAck | .evMrDataNack | .evSrSlaAck | .evSrGcallAck | .evSrDataAck
  | .evSrGcallDataAck | .evSrStop | .evStSlaAck | .evStDataAck | .evStDataNack | .evUnrecognized _ => true
  | .start | .stop | .transmitData | .transmitAck | .transmitNack | .enableSlaveReset => false
  | .setMode _ _ | .write _ _ _ _ | .writeText _ _ _ _ | .slaveStage _ _ | .read _ _ _ | .isReady | .isAvailable
  | .hostReserved => false

/-- The HOST rows: what the host presents (R172). -/
def isRequest : Instr → Bool
  | .evStartSent | .evRepStartSent | .evMtSlaAck | .evMtSlaNack | .evMtDataAck | .evMtDataNack | .evArbLost
  | .evMrSlaAck | .evMrSlaNack | .evMrDataAck | .evMrDataNack | .evSrSlaAck | .evSrGcallAck | .evSrDataAck
  | .evSrGcallDataAck | .evSrStop | .evStSlaAck | .evStDataAck | .evStDataNack | .evUnrecognized _ => false
  | .start | .stop | .transmitData | .transmitAck | .transmitNack | .enableSlaveReset => false
  | .setMode _ _ | .write _ _ _ _ | .writeText _ _ _ _ | .slaveStage _ _ | .read _ _ _ | .isReady | .isAvailable
  | .hostReserved => true

/-- The four receive events: the only rules that read DATA (R20). -/
def isReceive : Instr → Bool
  | .evMrDataAck | .evMrDataNack | .evSrDataAck | .evSrGcallDataAck => true
  | _ => false

/-! ### Invariants -/

/-- `0 <= txIndex <= txLen <= TX_SIZE` and `0 <= rxIndex <= rxLen <= RX_CAP` (R30). -/
abbrev CursorsInBounds (s : State) : Prop :=
  s.txIndex ≤ s.txLen ∧ s.txLen ≤ s.params.txSize ∧ s.rxIndex ≤ s.rxLen ∧ s.rxLen ≤ s.params.rxCap

/-- Both buffers are in canonical form and inside their physical size. -/
abbrev BuffersCanonical (s : State) : Prop :=
  Memory.wf s.params.txSize s.txBuf = true ∧ Memory.wf s.params.rxCap s.rxBuf = true

/-- Every valid byte has been written: `txBuf[i]` for `i < txLen`, `rxBuf[j]` for `j < rxIndex` (R181). -/
abbrev ValidBytesWritten (s : State) : Prop :=
  (∀ i < s.txLen, (Memory.read? s.txBuf i).isSome = true) ∧ (∀ j < s.rxIndex, (Memory.read? s.rxBuf j).isSome = true)

/-- A held request is one that some port word stands for (R67). -/
abbrev HeldWellFormed (s : State) : Prop :=
  (match s.openReq with | some (.held i) => i.wellFormed s.params | _ => true) = true

/-! ### Terms of the rules, for states before and after -/

/-- `s` with the trace items `items` put out and then command `c` issued (R80). -/
def driven (s : State) (items : List OutItem) (c : Command) : State :=
  { s with
    cmd := some (commandCode c), ctl := s.params.ctl.pattern c, pending := false,
    trace := s.trace ++ items ++ [.cmd c] }

/-- `s` after the byte at the TX cursor went to DATA and the cursor moved on, with command `c` (R90, R92). -/
def pushed (s : State) (c : Command) : State :=
  driven { s with data := s.txAt s.txIndex, txIndex := s.txIndex + 1 } [.data (s.txAt s.txIndex)] c

/-- The completion path (R101): START with `repStart`, else Available and STOP. -/
def completed (s : State) : State :=
  if s.repStart then driven s [] .start else driven { s with busState := .available } [] .stop

/-- The shared tail of the master-transmit rules (R101). -/
def tail (s : State) : State := if s.txIndex < s.txLen then pushed s .transmitData else completed s

/-- The slave transmitter's push (R92): the next byte, or 0x00 if exhausted. -/
def slavePushed (s : State) : State :=
  if s.txIndex < s.txLen then pushed s .enableSlaveReset
  else driven { s with data := 0x00#8 } [.data 0x00#8] .enableSlaveReset

/-- `s` after DATA was appended to RX, or discarded if there was no room (R94). -/
def received (s : State) : State :=
  if s.rxIndex < s.rxLen then { s with rxBuf := Memory.write s.rxBuf s.rxIndex s.data, rxIndex := s.rxIndex + 1 } else s

/-- The tie-break (R95). -/
def ackChoice (s : State) : Command := if s.rxIndex + 1 < s.rxLen then .transmitAck else .transmitNack

/-- The byte at the TX cursor, if one is to be sent, is inside `txBuf` (R45). -/
def txCursorInside (s : State) : Prop := s.txIndex < s.txLen → s.txIndex < s.params.txSize

/-- The byte at the RX cursor, if one is to be stored, is inside `rxBuf` (R45). -/
def rxCursorInside (s : State) : Prop := s.rxIndex < s.rxLen → s.rxIndex < s.params.rxCap

/-- The guard Ready (R135). -/
def readyNow (s : State) : Prop := s.busState = .available ∨ s.busState = .repeatedStartSent

/-- `s` after Initiate with the address byte `b0` and the payload `p` (R136): everything but the contents of `txBuf`,
which `buf` gives. -/
def initiated (s : State) (buf : Memory) (b0 : Byte) (p : List Byte) (rs : Bool) : State :=
  let t : State := { s with
    txBuf := buf, txLen := p.length + 1, repStart := rs, busState := .initializing }
  if s.busState = .repeatedStartSent then driven { t with txIndex := 1, data := b0 } [.data b0] .transmitData
  else driven { t with txIndex := 0 } [] .start

/-- `s` with a value returned to the host (R68). -/
def answered (s : State) (r : Reply) : State := { s with replies := s.replies ++ [r] }

/-- `s` with a READ of `n` bytes open between its phases (R141). -/
def reading (s : State) (n : Nat) : State := { s with openReq := some (.reading n) }

/-- `buf` is `old` with the bytes `bs` at `0, 1, …` and every other byte as before (R93). -/
def Staged (old buf : Memory) (bs : List Byte) : Prop :=
  (∀ j (h : j < bs.length), Memory.read? buf j = some bs[j]) ∧ ∀ j, bs.length ≤ j → Memory.read? buf j = Memory.read? old j

/-- How many bytes of `txBuf`, from index 0 on, a request may store (R93, R138 to R141). -/
def txBytesStored (i : Instr) (s : State) : Nat :=
  match i with
  | .write _ _ n _ => n + 1
  | .writeText _ _ n _ => min n s.params.txCap + 1
  | .slaveStage n _ => min n s.params.txCap
  | .read _ _ _ => 1
  | _ => 0

/-- `t` has everything of the host and of the inputs that `s` has: an event or a command does not disturb them (R169). -/
def SameHost (s t : State) : Prop :=
  t.openReq = s.openReq ∧ t.replies = s.replies ∧ t.requests = s.requests ∧ t.turns = s.turns

/-! ### Summaries of the spec, as functions of the state before -/

/-- The table of R27: `state` after each instruction's step. -/
def busAfter (i : Instr) (s : State) : BusState :=
  match i with
  | .evStartSent => if 0 < s.txLen ∨ s.repStart = true then s.busState else .available
  | .evRepStartSent => .repeatedStartSent
  | .evMtSlaAck => if s.txIndex < s.txLen ∨ s.repStart = true then .masterTransmitting else .available
  | .evMtDataAck => if s.txIndex < s.txLen ∨ s.repStart = true then s.busState else .available
  | .evMtDataNack => if s.repStart = true then s.busState else .available
  | .evMtSlaNack | .evMrSlaNack | .evArbLost => .available
  | .evMrSlaAck => .masterReceiving
  | .evMrDataAck => s.busState
  | .evMrDataNack => if s.repStart = true then s.busState else .available
  | .evStSlaAck => .slaveTransmitting
  | .evStDataAck => s.busState
  | .evStDataNack => .available
  | .evSrSlaAck | .evSrGcallAck => .slaveReceiving
  | .evSrDataAck | .evSrGcallDataAck => s.busState
  | .evSrStop => .available
  | .evUnrecognized _ => .available
  | .setMode _ _ => .available
  | .write _ _ n _ =>
    if n ≤ s.params.txCap ∧ (s.busState = .available ∨ s.busState = .repeatedStartSent) then .initializing else s.busState
  | .writeText _ _ _ _ =>
    if s.busState = .available ∨ s.busState = .repeatedStartSent then .initializing else s.busState
  | .read _ _ n =>
    if n ≤ s.params.rxCap ∧ (s.busState = .available ∨ s.busState = .repeatedStartSent) then .initializing else s.busState
  | .slaveStage _ _ | .isReady | .isAvailable | .hostReserved => s.busState
  | .start | .stop | .transmitData | .transmitAck | .transmitNack | .enableSlaveReset => s.busState

/-- The table of R161: the code each instruction's step records, if it records one. -/
def errorRecorded (i : Instr) (s : State) : Option Byte :=
  match i with
  | .evMtSlaNack => some (s.params.status.code .mtSlaNack)
  | .evMrSlaNack => some (s.params.status.code .mrSlaNack)
  | .evMtDataNack => some (s.params.status.code .mtDataNack)
  | .evArbLost => some (s.params.status.code .arbLost)
  | .evUnrecognized code => some code
  | _ => none

/-- What one step may put out (R51): nothing; one command; a DATA write and then the one command that uses it; or
SET_MODE's ADDRMATCH write with the arming pattern or the command. -/
def oneStepOutput : List OutItem → Bool
  | [] => true
  | [.cmd _] => true
  | [.data _, .cmd .transmitData] => true
  | [.data _, .cmd .enableSlaveReset] => true
  | [.addr _, .arm] => true
  | [.addr _, .cmd .enableSlaveReset] => true
  | _ => false

/-! ### The end of a run (R191) -/

/-- The last command of a trace. -/
def lastCommand : List OutItem → Option Command
  | [] => none
  | x :: xs =>
    match lastCommand xs with
    | some c => some c
    | none => match x with | .cmd c => some c | _ => none

/-- A run has ended well (R191): no request open, no event pending, Available, and the last command was STOP or
ENABLE_SLAVE_RESET, or none was issued. -/
abbrev EndedWell (s : State) : Prop :=
  s.openReq = none ∧ s.pending = false ∧ s.busState = .available ∧
    (lastCommand s.trace = some .stop ∨ lastCommand s.trace = some .enableSlaveReset ∨ lastCommand s.trace = none)

/-- The items put out by a master transfer of the bytes `bs`: each byte and the command that sends it (R29). -/
def sentItems : List Byte → List OutItem
  | [] => []
  | b :: bs => .data b :: .cmd .transmitData :: sentItems bs

end Sys2Proof.Safety
end

