-- ==== Sys2Proof/Certificates/Slice0/Obligations.lean ====
section
/-!
DEFINITION. The statements for the provers. Each says which rule of the spec it formalises; every statement about a
state holds for every value of its field `params`, so for every block the spec allows.
-/

open Sys2Proof Sys2Proof.Machine Sys2Proof.Safety

/-! ### Reset -/

/-- R28: what reset leaves, for every choice of the parameters; DATA and the buffers have no value of the spec's, and
nothing is written in a buffer. -/
def Obligations.ResetGivesTheSpecsValues : Prop :=
  ∀ p : Params,
    let s := State.resetWith p
    s.params = p ∧ s.busState = .available ∧ s.txIndex = 0 ∧ s.txLen = 0 ∧ s.rxIndex = 0 ∧ s.rxLen = 0 ∧
    s.repStart = false ∧ s.lastErr = none ∧ s.mode = .master ∧ s.addrMatch = 0x00#8 ∧ s.ctl = 0x00#8 ∧
    s.cmd = none ∧ s.trace = [] ∧ s.openReq = none ∧ s.pending = false ∧
    (∀ i, Memory.read? s.txBuf i = none ∧ Memory.read? s.rxBuf i = none)

/-- R180 with R28: asserting `rst` returns every register of the block to its reset value and leaves no byte written;
that the host's open request and the inputs stay is the model's reading (log 5). -/
def Obligations.RstReturnsTheBlockToReset : Prop :=
  ∀ (s : State) (ts : List Turn), s.turns = .rst :: ts →
    ∃ t, step s = .next t ∧
      t.busState = .available ∧ t.txIndex = 0 ∧ t.txLen = 0 ∧ t.rxIndex = 0 ∧ t.rxLen = 0 ∧
      t.repStart = false ∧ t.lastErr = none ∧ t.mode = .master ∧ t.addrMatch = 0x00#8 ∧ t.ctl = 0x00#8 ∧
      t.cmd = none ∧ t.trace = [] ∧ t.pending = false ∧
      (∀ i, Memory.read? t.txBuf i = none ∧ Memory.read? t.rxBuf i = none) ∧
      t.params = s.params ∧ t.openReq = s.openReq ∧ t.replies = s.replies ∧ t.requests = s.requests ∧ t.turns = ts

/-- The invariants R30 and R181 hold after reset, for every choice of the parameters. -/
def Obligations.InvariantsHoldAtReset : Prop :=
  ∀ p : Params, CursorsInBounds (State.resetWith p) ∧ BuffersCanonical (State.resetWith p) ∧
    ValidBytesWritten (State.resetWith p) ∧ HeldWellFormed (State.resetWith p)

/-! ### Encodings -/

/-- R62, R64: words of the event table decode to their events, and the platform codes R64 lists to the catch-all. -/
def Obligations.EventCodesOfTheTable : Prop :=
  decode defaultParams (.ev 0b00001000#8) = .ok .evStartSent ∧
  decode defaultParams (.ev 0b00010000#8) = .ok .evRepStartSent ∧
  decode defaultParams (.ev 0b00011000#8) = .ok .evMtSlaAck ∧
  decode defaultParams (.ev 0b00100000#8) = .ok .evMtSlaNack ∧
  decode defaultParams (.ev 0b00101000#8) = .ok .evMtDataAck ∧
  decode defaultParams (.ev 0b00110000#8) = .ok .evMtDataNack ∧
  decode defaultParams (.ev 0b00111000#8) = .ok .evArbLost ∧
  decode defaultParams (.ev 0b01000000#8) = .ok .evMrSlaAck ∧
  decode defaultParams (.ev 0b01001000#8) = .ok .evMrSlaNack ∧
  decode defaultParams (.ev 0b01010000#8) = .ok .evMrDataAck ∧
  decode defaultParams (.ev 0b01011000#8) = .ok .evMrDataNack ∧
  decode defaultParams (.ev 0b01100000#8) = .ok .evSrSlaAck ∧
  decode defaultParams (.ev 0b01110000#8) = .ok .evSrGcallAck ∧
  decode defaultParams (.ev 0b10000000#8) = .ok .evSrDataAck ∧
  decode defaultParams (.ev 0b10010000#8) = .ok .evSrGcallDataAck ∧
  decode defaultParams (.ev 0b10100000#8) = .ok .evSrStop ∧
  decode defaultParams (.ev 0b10101000#8) = .ok .evStSlaAck ∧
  decode defaultParams (.ev 0b10111000#8) = .ok .evStDataAck ∧
  decode defaultParams (.ev 0b11000000#8) = .ok .evStDataNack ∧
  decode defaultParams (.ev 0x88#8) = .ok (.evUnrecognized 0x88#8)

/-- R65, R67, R68: command codes and request headers of the spec's vectors decode to what they stand for; the command
codes 6 and 7 to nothing. -/
def Obligations.CommandAndRequestWordsOfTheTable : Prop :=
  decode defaultParams (.cmd 0b000#3) = .ok .start ∧
  decode defaultParams (.cmd 0b001#3) = .ok .stop ∧
  decode defaultParams (.cmd 0b010#3) = .ok .transmitData ∧
  decode defaultParams (.cmd 0b011#3) = .ok .transmitAck ∧
  decode defaultParams (.cmd 0b100#3) = .ok .transmitNack ∧
  decode defaultParams (.cmd 0b101#3) = .ok .enableSlaveReset ∧
  decode defaultParams (.cmd 0b110#3) = .error .reservedCommand ∧
  decode defaultParams (.cmd 0b111#3) = .error .reservedCommand ∧
  decode defaultParams (.host ⟨0x0842#16, 0, []⟩) = .ok (.setMode .slave 0x42#7) ∧
  decode defaultParams (.host ⟨0x2050#16, 2, [0xAA#8, 0x55#8]⟩) = .ok (.write false 0x50#7 2 [0xAA#8, 0x55#8]) ∧
  decode defaultParams (.host ⟨0x3068#16, 1, [0x3B#8]⟩) = .ok (.write true 0x68#7 1 [0x3B#8]) ∧
  decode defaultParams (.host ⟨0x4050#16, 0, []⟩) = .ok (.writeText false 0x50#7 0 []) ∧
  decode defaultParams (.host ⟨0x6000#16, 2, [0x10#8, 0x20#8]⟩) = .ok (.slaveStage 2 [0x10#8, 0x20#8]) ∧
  decode defaultParams (.host ⟨0x9050#16, 1, []⟩) = .ok (.read true 0x50#7 1) ∧
  decode defaultParams (.host ⟨0xA000#16, 0, []⟩) = .ok .isReady ∧
  decode defaultParams (.host ⟨0xC000#16, 0, []⟩) = .ok .isAvailable ∧
  decode defaultParams (.host ⟨0xE000#16, 0, []⟩) = .ok .hostReserved

/-- R60 to R68: every well-formed instruction, at every value of its operands, is what its encoding decodes to. -/
def Obligations.DecodeOfEncodeIsTheInstruction : Prop :=
  ∀ (p : Params) (i : Instr), p.Valid → i.wellFormed p = true → decode p (encode p i) = .ok i

/-- R64, R67: whatever word decodes, its instruction is well formed. -/
def Obligations.DecodedWordIsWellFormed : Prop :=
  ∀ (p : Params) (w : PortWord) (i : Instr), decode p w = .ok i → i.wellFormed p = true

/-- R64: every value that is none of the nineteen codes decodes to EV_UNRECOGNIZED with the value as its operand; there
are 237 of them under the default binding, the eight that R64 names among them; each is recorded, resets the bus and
returns to Available. -/
def Obligations.EveryOtherCodeIsUnrecognized : Prop :=
  (∀ (p : Params) (code : Byte), (∀ e : Event, p.status.code e ≠ code) →
    decode p (.ev code) = .ok (.evUnrecognized code)) ∧
  ((List.range 256).filter (fun k =>
    decide (decode defaultParams (.ev (BitVec.ofNat 8 k)) = .ok (.evUnrecognized (BitVec.ofNat 8 k))))).length = 237 ∧
  (∀ code ∈ [0x00#8, 0x68#8, 0x78#8, 0x88#8, 0x98#8, 0xB0#8, 0xC8#8, 0xF8#8],
    decode defaultParams (.ev code) = .ok (.evUnrecognized code)) ∧
  (∀ (code : Byte) (s : State), exec (.evUnrecognized code) s =
    .next (driven { s with lastErr := some code, busState := .available } [] .enableSlaveReset))

/-- R69: op 7 names no operation (no state change, no command, `ok = 0`); header bits 10 to 8 and a[7] are ignored. -/
def Obligations.ReservedHostBitsAreIgnored : Prop :=
  (∀ (p : Params) (w : HostWord), w.header.extractLsb' 13 3 = 7#3 → decode p (.host w) = .ok .hostReserved) ∧
  (∀ s : State, exec .hostReserved s = .next { s with replies := s.replies ++ [.ok false] }) ∧
  (∀ (p : Params) (h h' : BitVec 16) (n : Nat) (d : List Byte), h &&& 0xF87F#16 = h' &&& 0xF87F#16 →
    decode p (.host ⟨h, n, d⟩) = decode p (.host ⟨h', n, d⟩))

/-- R70: the address byte is the header's address operand shifted left one bit, a[7] dropped, the intent bit in bit 0
(1 read, 0 write). -/
def Obligations.AddressByteLayout : Prop :=
  ∀ h : BitVec 16,
    slaW (headerA h) = (h.extractLsb' 0 8) <<< 1 ∧ slaR (headerA h) = ((h.extractLsb' 0 8) <<< 1) ||| 1#8

/-- R72, R31: the seven BusState codes of the table; they are distinct and 7 is none of them. -/
def Obligations.BusStateCodes : Prop :=
  (∀ a b : BusState, busCode a = busCode b → a = b) ∧ (∀ s : State, s.stateView ≠ 7#3) ∧
  busCode .available = 0#3 ∧ busCode .initializing = 1#3 ∧ busCode .repeatedStartSent = 2#3 ∧
  busCode .masterTransmitting = 3#3 ∧ busCode .masterReceiving = 4#3 ∧ busCode .slaveTransmitting = 5#3 ∧
  busCode .slaveReceiving = 6#3

/-! ### A step -/

/-- R100, R143, R52: when the next turn's word decodes to an instruction, the step is that instruction run on the state
with the turn taken; for an event, with DATA as the environment chose it and the event pending; for a request, with the
request taken from the host. Two things in it are the model's choice and no rule of the spec: that a turn may drive the
Command Issuer's own port (the second clause, log 8: R52 lists no such step and R87 names only the handler, Initiate and
SET_MODE as callers), and that the command strobe is low at the start of every step (log 9). -/
def Obligations.StepRunsTheDecodedWord : Prop :=
  (∀ (s : State) (code din : Byte) (ts : List Turn) (i : Instr),
    s.turns = .event code din :: ts → decode s.params (.ev code) = .ok i →
    step s = exec i { s with turns := ts, cmd := none, data := din, pending := true }) ∧
  (∀ (s : State) (code : BitVec 3) (ts : List Turn) (i : Instr),
    s.turns = .issue code :: ts → decode s.params (.cmd code) = .ok i →
    step s = exec i { s with turns := ts, cmd := none }) ∧
  (∀ (s : State) (ts : List Turn) (w : HostWord) (ws : List HostWord) (i : Instr),
    s.turns = .host :: ts → s.openReq = none → s.requests = w :: ws → decode s.params (.host w) = .ok i →
    step s = exec i { s with turns := ts, cmd := none, requests := ws })

/-- R135, R169: at the host's turn a held request is tried again, its guard evaluated on the state as it then is. -/
def Obligations.HeldRequestIsTriedAgain : Prop :=
  ∀ (s : State) (ts : List Turn) (i : Instr), s.turns = .host :: ts → s.openReq = some (.held i) →
    step s = exec i { s with turns := ts, cmd := none, openReq := none }

/-- R6, R7: with no turn scheduled, or at the host's turn with nothing to present, no agent acts (log 6). -/
def Obligations.NothingScheduledNothingHappens : Prop :=
  (∀ s : State, s.turns = [] → step s = .next { s with cmd := none }) ∧
  (∀ (s : State) (ts : List Turn), s.turns = .host :: ts → s.openReq = none → s.requests = [] →
    step s = .next { s with turns := ts, cmd := none })

/-- R143: while a request is open the host presents no other; with none open its turn takes exactly the next one. That a
step that asserts `rst` leaves the host's requests too is the model's choice (log 5). -/
def Obligations.HostIsSequential : Prop :=
  (∀ s t : State, s.openReq ≠ none → step s = .next t → t.requests = s.requests) ∧
  (∀ (s t : State) (ts : List Turn), s.turns = .host :: ts → s.openReq = none → step s = .next t →
    t.requests = s.requests.tail)

/-- R5, R7: no step changes the parameters. -/
def Obligations.ParametersNeverChange : Prop :=
  ∀ s t : State, step s = .next t → t.params = s.params

/-! ### Command Issuer -/

/-- R80 to R86, R65, R66: each command drives its code and its pattern, appends itself to the trace, dismisses the
pending event, and changes nothing else; the default patterns are those of R66. -/
def Obligations.CommandsDriveThePort : Prop :=
  (∀ s : State,
    exec .start s = .next { s with
      cmd := some 0#3, ctl := s.params.ctl.start, pending := false, trace := s.trace ++ [.cmd .start] } ∧
    exec .stop s = .next { s with
      cmd := some 1#3, ctl := s.params.ctl.stop, pending := false, trace := s.trace ++ [.cmd .stop] } ∧
    exec .transmitData s = .next { s with
      cmd := some 2#3, ctl := s.params.ctl.transmitData, pending := false, trace := s.trace ++ [.cmd .transmitData] } ∧
    exec .transmitAck s = .next { s with
      cmd := some 3#3, ctl := s.params.ctl.transmitAck, pending := false, trace := s.trace ++ [.cmd .transmitAck] } ∧
    exec .transmitNack s = .next { s with
      cmd := some 4#3, ctl := s.params.ctl.transmitNack, pending := false, trace := s.trace ++ [.cmd .transmitNack] } ∧
    exec .enableSlaveReset s = .next { s with
      cmd := some 5#3, ctl := s.params.ctl.enableSlaveReset, pending := false,
      trace := s.trace ++ [.cmd .enableSlaveReset] }) ∧
  defaultCtlBinding.start = 0xA5#8 ∧ defaultCtlBinding.stop = 0x95#8 ∧ defaultCtlBinding.transmitData = 0x85#8 ∧
  defaultCtlBinding.transmitAck = 0xC5#8 ∧ defaultCtlBinding.transmitNack = 0x85#8 ∧
  defaultCtlBinding.enableSlaveReset = 0xC5#8

/-- R51: a step puts out nothing, one command, or one port write (DATA or ADDRMATCH) followed by the one command or
arming pattern it is for. -/
def Obligations.OneStepPutsOutAtMostOneCommand : Prop :=
  ∀ s t : State, step s = .next t → s.turns.head? ≠ some .rst →
    ∃ items, t.trace = s.trace ++ items ∧ oneStepOutput items = true

/-- R22, R80, R65: after a step the command strobe carries exactly the command the step issued, or is low; the codes 6
and 7 are never produced. -/
def Obligations.StrobeCarriesTheStepsCommand : Prop :=
  ∀ s t : State, step s = .next t → s.turns.head? ≠ some .rst →
    ∃ items, t.trace = s.trace ++ items ∧ t.cmd = (lastCommand items).map commandCode ∧
      t.cmd ≠ some 6#3 ∧ t.cmd ≠ some 7#3

/-! ### Master-side events -/

/-- R102: EV_START_SENT rewinds the TX cursor and sends the address byte; with nothing staged it takes the completion
path. -/
def Obligations.StartSentSendsTheAddressByte : Prop :=
  ∀ s : State,
    (0 < s.txLen → exec .evStartSent s =
      .next (driven { s with data := s.txAt 0, txIndex := 1 } [.data (s.txAt 0)] .transmitData)) ∧
    (s.txLen = 0 → s.repStart = true → exec .evStartSent s = .next (driven { s with txIndex := 0 } [] .start)) ∧
    (s.txLen = 0 → s.repStart = false → exec .evStartSent s =
      .next (driven { s with txIndex := 0, busState := .available } [] .stop))

/-- R103: EV_REP_START_SENT rewinds the TX cursor, hands over to the host in RepeatedStartSent and issues nothing. -/
def Obligations.RepeatedStartHandsOverToTheHost : Prop :=
  ∀ s : State, exec .evRepStartSent s = .next { s with txIndex := 0, busState := .repeatedStartSent }

/-- R101, R104, R106: an acknowledged SLA+W makes the state MasterTransmitting and, as an acknowledged data byte does,
sends the next staged byte; with none left it issues START if a repeated start was requested, else Available and
STOP. -/
def Obligations.AcknowledgeSendsTheNextByteOrCompletes : Prop :=
  ∀ s : State, txCursorInside s →
    exec .evMtSlaAck s = .next (tail { s with busState := .masterTransmitting }) ∧
    exec .evMtDataAck s = .next (tail s)

/-- R107: a data NACK is recorded and takes the completion path; the bytes left are not sent and the cursor stays. -/
def Obligations.DataNackIsRecordedAndEndsTheTransfer : Prop :=
  ∀ s : State,
    (s.repStart = true → exec .evMtDataNack s =
      .next (driven { s with lastErr := some (s.params.status.code .mtDataNack) } [] .start)) ∧
    (s.repStart = false → exec .evMtDataNack s =
      .next (driven { s with
        lastErr := some (s.params.status.code .mtDataNack), busState := .available } [] .stop))

/-- R105, R95: an acknowledged SLA+R makes the state MasterReceiving and requests ACK if more than one byte remains,
else NACK. -/
def Obligations.ReadAddressAckChoosesAckOrNack : Prop :=
  ∀ s : State,
    (s.rxIndex + 1 < s.rxLen → exec .evMrSlaAck s =
      .next (driven { s with busState := .masterReceiving } [] .transmitAck)) ∧
    (s.rxLen ≤ s.rxIndex + 1 → exec .evMrSlaAck s =
      .next (driven { s with busState := .masterReceiving } [] .transmitNack))

/-- R108, R109, R94, R95: a received byte is appended while there is room and discarded otherwise; an acknowledged one
is followed by the tie-break on the new cursor, the final one by START or by STOP and Available. -/
def Obligations.MasterReceiveStoresAndAnswers : Prop :=
  ∀ s : State, rxCursorInside s →
    exec .evMrDataAck s = .next (driven (received s) [] (ackChoice (received s))) ∧
    exec .evMrDataNack s = .next (completed (received s))

/-- R110: address not acknowledged and arbitration lost record the code, make the bus Available and issue STOP,
whatever `repStart` is. -/
def Obligations.FailuresStopTheTransfer : Prop :=
  ∀ s : State,
    exec .evMtSlaNack s = .next (driven { s with
      lastErr := some (s.params.status.code .mtSlaNack), busState := .available } [] .stop) ∧
    exec .evMrSlaNack s = .next (driven { s with
      lastErr := some (s.params.status.code .mrSlaNack), busState := .available } [] .stop) ∧
    exec .evArbLost s = .next (driven { s with
      lastErr := some (s.params.status.code .arbLost), busState := .available } [] .stop)

/-! ### Slave-side events and the catch-all -/

/-- R121, R122, R123, R92: a match as transmitter rewinds and sends the first staged byte, an acknowledged byte is
followed by the next one or 0x00, a byte not acknowledged ends the transfer; each re-arms as addressable slave. -/
def Obligations.SlaveTransmitterSendsStagedBytes : Prop :=
  ∀ s : State,
    exec .evStSlaAck s = .next (slavePushed { s with txIndex := 0, busState := .slaveTransmitting }) ∧
    (txCursorInside s → exec .evStDataAck s = .next (slavePushed s)) ∧
    exec .evStDataNack s = .next (driven { s with busState := .available } [] .enableSlaveReset)

/-- R124, R125, R126, R94: a match as receiver (own address or general call) declares the whole RX buffer, each byte is
appended or discarded and always acknowledged, STOP returns to Available and keeps the cursor. -/
def Obligations.SlaveReceiverStoresBytes : Prop :=
  ∀ s : State,
    exec .evSrSlaAck s = .next (driven { s with
      rxIndex := 0, rxLen := s.params.rxCap, busState := .slaveReceiving } [] .transmitAck) ∧
    exec .evSrGcallAck s = .next (driven { s with
      rxIndex := 0, rxLen := s.params.rxCap, busState := .slaveReceiving } [] .transmitAck) ∧
    (rxCursorInside s →
      exec .evSrDataAck s = .next (driven (received s) [] .transmitAck) ∧
      exec .evSrGcallDataAck s = .next (driven (received s) [] .transmitAck)) ∧
    exec .evSrStop s = .next (driven { s with busState := .available } [] .enableSlaveReset)

/-- R128 and property S7: a step on an unrecognised code, in any state, ends Available with the code recorded and the
reset command issued; cursors, lengths, `repStart` and both buffers are not touched. -/
def Obligations.UnrecognizedCodeNeverWedgesTheBus : Prop :=
  ∀ (s : State) (code din : Byte) (ts : List Turn), s.turns = .event code din :: ts →
    (∀ e : Event, s.params.status.code e ≠ code) →
    ∃ t, step s = .next t ∧ t.busState = .available ∧ t.lastErr = some code ∧
      t.trace = s.trace ++ [.cmd .enableSlaveReset] ∧ t.txIndex = s.txIndex ∧ t.txLen = s.txLen ∧
      t.rxIndex = s.rxIndex ∧ t.rxLen = s.rxLen ∧ t.repStart = s.repStart ∧
      (∀ a, t.txAt a = s.txAt a) ∧ (∀ a, t.rxAt a = s.rxAt a) ∧ t.openReq = s.openReq

/-! ### The handler as a whole -/

/-- R100: in every state whose cursors R30 allows, every event completes; in no state is an event refused. -/
def Obligations.EveryEventCompletes : Prop :=
  ∀ (i : Instr) (s : State), isEvent i = true →
    (CursorsInBounds s → ∃ t, exec i s = .next t) ∧ (∀ r, exec i s ≠ .refused r)

/-- R100, R18: no event's rule reads `state` or `mode`. Two states that differ only there are handled alike: the results
differ only there, and `state` differs only where the rule does not write it. -/
def Obligations.HandlerIgnoresStateAndMode : Prop :=
  ∀ (i : Instr) (s : State) (b : BusState) (m : Mode), isEvent i = true →
    (∀ t, exec i s = .next t →
      ∃ b', exec i { s with busState := b, mode := m } = .next { t with busState := b', mode := m } ∧
        (b' = t.busState ∨ (t.busState = s.busState ∧ b' = b))) ∧
    (∀ e, exec i s = .fault e → exec i { s with busState := b, mode := m } = .fault e)

/-- R42, R112, R169: what no event changes: the TX bytes and their length, `repStart`, `mode`, ADDRMATCH, the parameters,
the host and the inputs; RX bytes change only at the RX cursor and only by a receive event; the RX length changes only
on an address match as receiver; the cursors move by one or return to 0. -/
def Obligations.HandlerFrame : Prop :=
  ∀ (i : Instr) (s t : State), isEvent i = true → exec i s = .next t →
    (∀ a, t.txAt a = s.txAt a) ∧ t.txLen = s.txLen ∧ t.repStart = s.repStart ∧ t.mode = s.mode ∧
    t.addrMatch = s.addrMatch ∧ t.params = s.params ∧ t.resets = s.resets ∧ SameHost s t ∧
    (∀ a, a ≠ s.rxIndex → t.rxAt a = s.rxAt a) ∧
    (isReceive i = false → ∀ a, t.rxAt a = s.rxAt a) ∧
    (isReceive i = true → t.data = s.data) ∧
    (i ≠ .evSrSlaAck → i ≠ .evSrGcallAck → t.rxLen = s.rxLen ∧ (t.rxIndex = s.rxIndex ∨ t.rxIndex = s.rxIndex + 1)) ∧
    (t.txIndex = s.txIndex ∨ t.txIndex = s.txIndex + 1 ∨ t.txIndex = 0 ∨ t.txIndex = 1)

/-- R45 (log 10): a byte to be sent or stored outside a buffer's physical size, possible only where R30 fails, is a
fault. -/
def Obligations.CursorOutsideTheBufferFaults : Prop :=
  (∀ s : State, s.txIndex < s.txLen → s.params.txSize ≤ s.txIndex →
    exec .evMtSlaAck s = .fault .txOutOfRange ∧ exec .evMtDataAck s = .fault .txOutOfRange ∧
    exec .evStDataAck s = .fault .txOutOfRange) ∧
  (∀ s : State, s.rxIndex < s.rxLen → s.params.rxCap ≤ s.rxIndex →
    exec .evMrDataAck s = .fault .rxOutOfRange ∧ exec .evMrDataNack s = .fault .rxOutOfRange ∧
    exec .evSrDataAck s = .fault .rxOutOfRange ∧ exec .evSrGcallDataAck s = .fault .rxOutOfRange)

/-! ### Requests -/

/-- R137, R138, R136: WRITE. Oversized, it fails at once whatever `state` is, with no other effect; else, unless Ready,
it is held; else the address byte and the payload are staged, no other byte of `txBuf` changes, the transfer is
initiated (bridged after a repeated START) and `ok = 1` returned. -/
def Obligations.WriteRejectsHoldsOrStarts : Prop :=
  ∀ (s : State) (rs : Bool) (a : BitVec 7) (n : Nat) (p : List Byte), p.length = n →
    (s.params.txCap < n → exec (.write rs a n p) s = .next { s with replies := s.replies ++ [.ok false] }) ∧
    (n ≤ s.params.txCap → ¬ readyNow s →
      exec (.write rs a n p) s = .next { s with openReq := some (.held (.write rs a n p)) }) ∧
    (n ≤ s.params.txCap → readyNow s →
      ∃ buf, Staged s.txBuf buf (slaW a :: p) ∧
        exec (.write rs a n p) s =
          .next (answered (initiated s buf (slaW a) p rs) (.ok true)))

/-- R139: WRITE_TEXT is held unless Ready; else it starts a transfer of the first `min(n, TX_CAP)` bytes, with no failure
and no response. -/
def Obligations.WriteTextClampsAndStarts : Prop :=
  ∀ (s : State) (rs : Bool) (a : BitVec 7) (n : Nat) (p : List Byte), p.length = n →
    (¬ readyNow s →
      exec (.writeText rs a n p) s = .next { s with openReq := some (.held (.writeText rs a n p)) }) ∧
    (readyNow s →
      ∃ buf, Staged s.txBuf buf (slaW a :: p.take (min n s.params.txCap)) ∧
        exec (.writeText rs a n p) s =
          .next (initiated s buf (slaW a) (p.take (min n s.params.txCap)) rs))

/-- R140: SLAVE_STAGE is held unless Ready; else it stages the first `min(n, TX_CAP)` bytes from `txBuf[0]` on, sets the
TX length and rewinds the cursor, and changes nothing else: no command, not `state`, `repStart` or DATA. -/
def Obligations.SlaveStageStagesTheResponse : Prop :=
  ∀ (s : State) (n : Nat) (p : List Byte), p.length = n →
    (¬ readyNow s → exec (.slaveStage n p) s = .next { s with openReq := some (.held (.slaveStage n p)) }) ∧
    (readyNow s →
      ∃ buf, Staged s.txBuf buf (p.take (min n s.params.txCap)) ∧
        exec (.slaveStage n p) s =
          .next { s with txBuf := buf, txLen := min n s.params.txCap, txIndex := 0 })

/-- R137, R141, R136: READ, phase 1. Oversized, it fails at once; else, unless Ready, it is held; else RX is staged and
the address byte SLA_R sent for in one step, `ok = 1` returned, and the request stays open. -/
def Obligations.ReadRejectsHoldsOrStarts : Prop :=
  ∀ (s : State) (rs : Bool) (a : BitVec 7) (n : Nat),
    (s.params.rxCap < n → exec (.read rs a n) s = .next { s with replies := s.replies ++ [.ok false] }) ∧
    (n ≤ s.params.rxCap → ¬ readyNow s →
      exec (.read rs a n) s = .next { s with openReq := some (.held (.read rs a n)) }) ∧
    (n ≤ s.params.rxCap → readyNow s →
      ∃ buf, Staged s.txBuf buf [slaR a] ∧
        exec (.read rs a n) s =
          .next (reading (answered (initiated { s with rxIndex := 0, rxLen := n } buf (slaR a) [] rs) (.ok true)) n))

/-- R142: READ, phase 2, at the host's turn: while `rxIndex ≠ n` the request stays open and nothing changes; when
`rxIndex = n` the bytes `rxBuf[0 .. n-1]` are returned in order, the request ends and no state of the block changes. -/
def Obligations.ReadReturnsItsBytes : Prop :=
  ∀ (s : State) (ts : List Turn) (n : Nat), s.turns = .host :: ts → s.openReq = some (.reading n) →
    (s.rxIndex ≠ n → step s = .next { s with turns := ts, cmd := none }) ∧
    (s.rxIndex = n → n ≤ s.params.rxCap →
      step s = .next { s with
        turns := ts, cmd := none, openReq := none,
        replies := s.replies ++ [.bytes ((List.range n).map s.rxAt)] })

/-- R185, R142: an open READ ends only by `rxIndex = n` at the host's turn; no event, no error and no return to Available
ends it. The spec does not say what `rst` does to the host's open request: that the READ stays open across a step that
asserts `rst` is the model's choice (log 5), and the statement rests on it for such a step alone. -/
def Obligations.OpenReadEndsOnlyByItsBytes : Prop :=
  ∀ (s t : State) (n : Nat), s.openReq = some (.reading n) → step s = .next t →
    t.openReq = some (.reading n) ∨ (t.openReq = none ∧ s.rxIndex = n ∧ s.turns.head? = some .host)

/-- R150, R151: SET_MODE clears both cursors, both lengths and `repStart`; Master clears ADDRMATCH and drives the arming
pattern, which is no command; Slave latches the address with the general call enabled and issues ENABLE_SLAVE_RESET;
`lastErr`, DATA and the buffers' contents stay. Unless `state = Available` it is refused. -/
def Obligations.SetModeReconfiguresOrIsRefused : Prop :=
  ∀ (s : State) (a : BitVec 7),
    (s.busState = .available →
      exec (.setMode .master a) s = .next { s with
        txIndex := 0, txLen := 0, rxIndex := 0, rxLen := 0, busState := .available, repStart := false,
        mode := .master, addrMatch := 0x00#8, ctl := 0x05#8, trace := s.trace ++ [.addr 0x00#8, .arm] }) ∧
    (s.busState = .available →
      exec (.setMode .slave a) s = .next (driven { s with
        txIndex := 0, txLen := 0, rxIndex := 0, rxLen := 0, busState := .available, repStart := false,
        mode := .slave, addrMatch := BitVec.ofNat 8 (2 * a.toNat + 1) }
        [.addr (BitVec.ofNat 8 (2 * a.toNat + 1))] .enableSlaveReset)) ∧
    (s.busState ≠ .available → ∀ m, exec (.setMode m a) s = .refused .setModeOutsideAvailable)

/-- R152, R153: in every state the queries return their bit and change no state of the block. -/
def Obligations.QueriesNeverMutateState : Prop :=
  ∀ s : State,
    (readyNow s → exec .isReady s = .next { s with replies := s.replies ++ [.flag true] }) ∧
    (¬ readyNow s → exec .isReady s = .next { s with replies := s.replies ++ [.flag false] }) ∧
    (s.busState = .available → exec .isAvailable s = .next { s with replies := s.replies ++ [.flag true] }) ∧
    (s.busState ≠ .available → exec .isAvailable s = .next { s with replies := s.replies ++ [.flag false] })

/-- R42, R13, R140: what no request changes: the RX bytes, `lastErr`, the inputs, the parameters; TX bytes change only
below the number of bytes the request stores, computed as its meaning computes it; DATA changes only when a transfer is
bridged after a repeated START; `mode` and ADDRMATCH only by SET_MODE. -/
def Obligations.RequestFrame : Prop :=
  ∀ (i : Instr) (s t : State), isRequest i = true → exec i s = .next t →
    (∀ a, t.rxAt a = s.rxAt a) ∧ t.lastErr = s.lastErr ∧ t.params = s.params ∧ t.resets = s.resets ∧
    t.requests = s.requests ∧ t.turns = s.turns ∧
    (∀ a, txBytesStored i s ≤ a → t.txAt a = s.txAt a) ∧
    (s.busState ≠ .repeatedStartSent → t.data = s.data) ∧
    ((∀ m a, i ≠ .setMode m a) → t.mode = s.mode ∧ t.addrMatch = s.addrMatch)

/-! ### Whole-machine rules -/

/-- R27: every write of `state`, row by row of the table, and no other rule writes it. -/
def Obligations.BusStateFollowsTheTable : Prop :=
  (∀ (i : Instr) (s t : State), exec i s = .next t → t.busState = busAfter i s) ∧
  (∀ (n : Nat) (s t : State), readCompletion n s = .next t → t.busState = s.busState)

/-- R161, R162, R13: `lastErr` is written by exactly the handler's five error events, with their own code, and kept by
every other instruction; an oversized request does not touch it. -/
def Obligations.ErrorsAreRecordedByTheTable : Prop :=
  ∀ (i : Instr) (s t : State), exec i s = .next t →
    t.lastErr = (match errorRecorded i s with | some c => some c | none => s.lastErr)

/-- R13, R188: no step but a reset clears `lastErr`. -/
def Obligations.LastErrIsSticky : Prop :=
  ∀ s t : State, step s = .next t → s.turns.head? ≠ some .rst → s.lastErr ≠ none → t.lastErr ≠ none

/-- R12, R18, R19: `mode` and ADDRMATCH are written by SET_MODE alone; `repStart` by it and by WRITE, WRITE_TEXT and
READ alone; no event and no command writes any of them. -/
def Obligations.ConfigurationWriters : Prop :=
  ∀ (i : Instr) (s t : State), exec i s = .next t →
    ((∀ m a, i ≠ .setMode m a) → t.mode = s.mode ∧ t.addrMatch = s.addrMatch) ∧
    ((∀ m a, i ≠ .setMode m a) → (∀ rs a n p, i ≠ .write rs a n p) → (∀ rs a n p, i ≠ .writeText rs a n p) →
      (∀ rs a n, i ≠ .read rs a n) → t.repStart = s.repStart)

/-- R30: the cursors and lengths stay in bounds, whatever the environment, the host and the scheduler do. -/
def Obligations.CursorsStayInBounds : Prop :=
  ∀ s t : State, CursorsInBounds s → step s = .next t → CursorsInBounds t

/-- R40, R45: both buffers stay in canonical form and inside their physical size. -/
def Obligations.BuffersStayCanonical : Prop :=
  ∀ s t : State, BuffersCanonical s → step s = .next t → BuffersCanonical t

/-- R181: no rule can read a buffer byte before it is written: every valid byte (TX below its length, RX below its
cursor) stays written. That a held request stays held across `rst` is the model's choice (log 5). -/
def Obligations.ValidBytesStayWritten : Prop :=
  ∀ s t : State, ValidBytesWritten s → HeldWellFormed s → step s = .next t → ValidBytesWritten t ∧ HeldWellFormed t

/-- R160, R45: from a state whose cursors R30 allows, no step faults. -/
def Obligations.NoStepFaults : Prop :=
  ∀ (s : State) (e : Fault), CursorsInBounds s → step s ≠ .fault e

/-- R160, R151, R167: a step is refused only for two reasons. Either the instruction run at the host's turn was SET_MODE,
held or just presented, while `state` was not Available; or the turn's word, a driven command code or the request just
presented, is one that the decoder rejects, for the reason given (log 12: no port carries it; a command code comes as a
word of its own only by log 8). -/
def Obligations.RefusalsHaveTwoReasons : Prop :=
  ∀ (s : State) (r : Refusal), step s = .refused r →
    (r = .setModeOutsideAvailable ∧ s.busState ≠ .available ∧ ∃ m a ts, s.turns = .host :: ts ∧
      (s.openReq = some (.held (.setMode m a)) ∨
        (s.openReq = none ∧ ∃ w ws, s.requests = w :: ws ∧ decode s.params (.host w) = .ok (.setMode m a)))) ∨
    (∃ w e, r = .noSuchWord e ∧ decode s.params w = .error e ∧
      ((∃ code ts, s.turns = .issue code :: ts ∧ w = .cmd code) ∨
        (∃ h hs ts, s.turns = .host :: ts ∧ s.openReq = none ∧ s.requests = h :: hs ∧ w = .host h)))

/-- R5, R97: with valid parameters, in-bounds cursors and lengths fit their `LEN_W`-bit registers, and so does the one
staged length `n + 1` of an accepted request, so no increment wraps. -/
def Obligations.CursorsFitTheirRegisters : Prop :=
  ∀ s : State, s.params.Valid → CursorsInBounds s →
    s.txIndex < 2 ^ s.params.lenW ∧ s.txLen < 2 ^ s.params.lenW ∧ s.rxIndex < 2 ^ s.params.lenW ∧
    s.rxLen < 2 ^ s.params.lenW ∧ ∀ n, n ≤ s.params.txCap → n + 1 < 2 ^ s.params.lenW

/-! ### The source's testable properties (95_test_vectors S1, S3, S4, S5) -/

/-- S1: a WRITE of `n ≤ TX_CAP` bytes followed by the full success event sequence ends Available, has transmitted
exactly the address byte and the `n` payload bytes, in order, and is terminated by STOP; the run has ended well
(R191). -/
def Obligations.MasterWriteSendsEveryByte : Prop :=
  ∀ (s : State) (a : BitVec 7) (n : Nat) (p : List Byte) (d : Byte),
    s.params.Valid → s.openReq = none → s.busState = .available → p.length = n → n ≤ s.params.txCap →
    s.requests = [⟨hostHeader 1#3 false .master a, n, p⟩] →
    s.turns = .host :: .event (s.params.status.code .startSent) d :: .event (s.params.status.code .mtSlaAck) d ::
      List.replicate n (.event (s.params.status.code .mtDataAck) d) →
    ∃ t, Host.Core.run core (n + 3) s = .next t ∧ t.busState = .available ∧
      t.trace = s.trace ++ [.cmd .start] ++ sentItems (slaW a :: p) ++ [.cmd .stop] ∧ EndedWell t

/-- S3: in a read of `n + 1` bytes, from the acknowledged address on, the handler requests ACK for the first `n` received
bytes and NACK for the last. -/
def Obligations.ReceiveTieBreak : Prop :=
  ∀ (s : State) (n : Nat) (d : Byte),
    s.params.Valid → s.rxIndex = 0 → s.rxLen = n + 1 → n + 1 ≤ s.params.rxCap →
    s.turns = .event (s.params.status.code .mrSlaAck) d ::
      List.replicate n (.event (s.params.status.code .mrDataAck) d) →
    ∃ t, Host.Core.run core (n + 1) s = .next t ∧ t.rxIndex = n ∧
      t.trace = s.trace ++ List.replicate n (.cmd .transmitAck) ++ [.cmd .transmitNack]

/-- S4: a transfer with a repeated start whose bytes are all sent, followed by a second WRITE without one, puts out a
START and no STOP between the two payloads; the second transfer is bridged (its address byte sent without another START),
and with its full success event sequence it sends exactly its address and its `n` payload bytes in order, and ends
Available with STOP; the run has ended well (R191). -/
def Obligations.RepeatedStartChains : Prop :=
  ∀ (s : State) (a : BitVec 7) (n : Nat) (p : List Byte) (d : Byte),
    s.params.Valid → s.openReq = none → s.repStart = true → s.txLen ≤ s.txIndex → p.length = n →
    n ≤ s.params.txCap → s.requests = [⟨hostHeader 1#3 false .master a, n, p⟩] →
    s.turns = .event (s.params.status.code .mtDataAck) d :: .event (s.params.status.code .repStartSent) d :: .host ::
      .event (s.params.status.code .mtSlaAck) d :: List.replicate n (.event (s.params.status.code .mtDataAck) d) →
    ∃ u, Host.Core.run core 3 s = .next u ∧ u.busState = .initializing ∧ u.txIndex = 1 ∧ u.txLen = n + 1 ∧
      u.repStart = false ∧ u.trace = s.trace ++ [.cmd .start, .data (slaW a), .cmd .transmitData] ∧
      ∃ t, Host.Core.run core (n + 1) u = .next t ∧ Host.Core.run core (n + 4) s = .next t ∧
        t.busState = .available ∧ t.repStart = false ∧
        t.trace = s.trace ++ [.cmd .start] ++ sentItems (slaW a :: p) ++ [.cmd .stop] ∧ EndedWell t

/-- S5: own address matched as receiver, `k ≤ RX_CAP` bytes acknowledged, then STOP or a repeated START, yields exactly
those bytes in arrival order in the host's view and returns to Available. -/
def Obligations.SlaveReceiveRoundTrip : Prop :=
  ∀ (s : State) (d : Byte) (bs : List Byte),
    s.params.Valid → bs.length ≤ s.params.rxCap →
    s.turns = .event (s.params.status.code .srSlaAck) d ::
      (bs.map (fun b => .event (s.params.status.code .srDataAck) b) ++ [.event (s.params.status.code .srStop) d]) →
    ∃ t, Host.Core.run core (bs.length + 2) s = .next t ∧ t.busState = .available ∧ t.rxIndex = bs.length ∧
      t.rxView = bs
end

