-- ==== Sys2Proof/Laws/Decode.lean ====
section
/-!
SUPPORT. Spec lemmas of the encodings: the header's fields read back from a built header, and the search for an event.
-/

namespace Sys2Proof

/-- The operation of a built header (R67). -/
@[simp] theorem headerOp_hostHeader (op : BitVec 3) (rs : Bool) (m : Mode) (a : BitVec 7) :
    headerOp (hostHeader op rs m a) = op := by
  apply BitVec.eq_of_getLsbD_eq
  intro i hi
  interval_cases i <;> simp [headerOp, hostHeader]

/-- The repeated-start bit of a built header (R67). -/
@[simp] theorem headerRs_hostHeader (op : BitVec 3) (rs : Bool) (m : Mode) (a : BitVec 7) :
    headerRs (hostHeader op rs m a) = rs := by
  cases rs <;> simp [headerRs, hostHeader]

/-- The mode bit of a built header (R67, R73). -/
@[simp] theorem headerM_hostHeader (op : BitVec 3) (rs : Bool) (m : Mode) (a : BitVec 7) :
    headerM (hostHeader op rs m a) = m := by
  cases m <;> simp [headerM, hostHeader]

/-- The address bits of a built header (R67). -/
@[simp] theorem headerA_hostHeader (op : BitVec 3) (rs : Bool) (m : Mode) (a : BitVec 7) :
    headerA (hostHeader op rs m a) = a := by
  apply BitVec.eq_of_getLsbD_eq
  intro i hi
  interval_cases i <;> simp [headerA, hostHeader]

/-- Every event is in the list. -/
theorem mem_allEvents (e : Event) : e ∈ allEvents := by cases e <;> decide

/-- A byte is found as the event a valid binding gives it (U14). -/
theorem findEvent_code (p : Params) (h : p.Valid) (e : Event) : findEvent p.status (p.status.code e) = some e := by
  unfold findEvent
  cases hf : allEvents.find? (fun f => decide (p.status.code f = p.status.code e)) with
  | none =>
    have := List.find?_eq_none.mp hf e (mem_allEvents e)
    simp at this
  | some f =>
    have := List.find?_some hf
    rw [h.2 f e (by simpa using this)]

/-- A byte is found as an event only if the binding gives it that byte. -/
theorem findEvent_some {b : StatusBinding} {code : Byte} {e : Event} (h : findEvent b code = some e) :
    b.code e = code := by simpa using List.find?_some h

/-- A byte that is no event's is found as none (R64). -/
theorem findEvent_none_iff (b : StatusBinding) (code : Byte) :
    findEvent b code = none ↔ ∀ e, b.code e ≠ code := by
  unfold findEvent
  rw [List.find?_eq_none]
  exact ⟨fun h e => by simpa using h e (mem_allEvents e), fun h e _ => by simpa using h e⟩

/-- The default parameters are valid. -/
theorem defaultParams_valid : defaultParams.Valid := by
  refine ⟨by decide, ?_⟩
  intro e f; cases e <;> cases f <;> decide

end Sys2Proof
end

