-- ==== Sys2Proof/Laws/Memory.lean ====
section
/-!
SUPPORT. The laws of a buffer's memory: a read after a write, and that every memory operation keeps the canonical form.
-/

namespace Sys2Proof.Machine

/-- A read after a write: the byte written at that index, the old byte at every other. -/
theorem Memory.read?_write (m : Memory) (j : Nat) (c : Byte) (k : Nat) :
    Memory.read? (Memory.write m j c) k = if j = k then some c else Memory.read? m k := by
  induction m with
  | nil => simp [Memory.write, Memory.read?]
  | cons x m ih =>
    obtain ⟨i, b⟩ := x
    simp only [Memory.write]
    split
    · simp only [Memory.read?]
    · split
      · rename_i h; subst h; simp only [Memory.read?]; split <;> rfl
      · simp only [Memory.read?, ih]
        split
        · rename_i h; subst h; rw [if_neg (by omega)]
        · rfl

/-- A read after consecutive writes. -/
theorem Memory.read?_writeBytes (m : Memory) (j : Nat) (cs : List Byte) (k : Nat) :
    Memory.read? (Memory.writeBytes m j cs) k =
      if h : j ≤ k ∧ k - j < cs.length then some (cs[k - j]'h.2) else Memory.read? m k := by
  induction cs generalizing m j with
  | nil => simp [Memory.writeBytes]
  | cons c cs ih =>
    simp only [Memory.writeBytes, ih, Memory.read?_write, List.length_cons]
    by_cases h1 : j = k
    · subst h1; simp
    · by_cases h2 : j + 1 ≤ k ∧ k - (j + 1) < cs.length
      · have h3 : j ≤ k ∧ k - j < cs.length + 1 := by omega
        rw [dif_pos h2, dif_pos h3]
        have : k - j = (k - (j + 1)) + 1 := by omega
        simp [this]
      · have h3 : ¬ (j ≤ k ∧ k - j < cs.length + 1) := by omega
        rw [dif_neg h2, dif_neg h3, if_neg h1]

/-- Writing at or above a bound keeps the indices rising above it. -/
theorem Memory.rising_write (m : Memory) (lo : Option Nat) (j : Nat) (c : Byte)
    (h : Memory.risingFrom lo m = true) (hlo : ∀ l, lo = some l → l < j) :
    Memory.risingFrom lo (Memory.write m j c) = true := by
  have front : ∀ (m' : Memory), Memory.risingFrom (some j) m' = true → Memory.risingFrom lo ((j, c) :: m') = true := by
    intro m' h'
    simp only [Memory.risingFrom, Bool.and_eq_true]
    exact ⟨by cases lo with
      | none => rfl
      | some l => simpa using hlo l rfl, h'⟩
  induction m generalizing lo with
  | nil => exact front [] rfl
  | cons x m ih =>
    obtain ⟨i, b⟩ := x
    simp only [Memory.risingFrom, Bool.and_eq_true] at h
    simp only [Memory.write]
    split
    · rename_i hj
      exact front _ (by simp only [Memory.risingFrom, Bool.and_eq_true]; exact ⟨by simpa using hj, h.2⟩)
    · split
      · rename_i _ hj; subst hj; exact front _ h.2
      · have hi : i < j := by omega
        simp only [Memory.risingFrom, Bool.and_eq_true]
        refine ⟨h.1, ih (some i) h.2 (by rintro l ⟨⟩; exact hi) ?_⟩
        intro m' h'
        simp only [Memory.risingFrom, Bool.and_eq_true]
        exact ⟨by simpa using hi, h'⟩

/-- The indices of a written memory are the old ones and the one written. -/
theorem Memory.all_write (m : Memory) (j : Nat) (c : Byte) (size : Nat)
    (h : m.all (fun x => decide (x.1 < size)) = true) (hj : j < size) :
    (Memory.write m j c).all (fun x => decide (x.1 < size)) = true := by
  induction m with
  | nil => simpa [Memory.write] using hj
  | cons x m ih =>
    obtain ⟨i, b⟩ := x
    simp only [List.all_cons, Bool.and_eq_true] at h
    simp only [Memory.write]
    split
    · simp only [List.all_cons, Bool.and_eq_true]; exact ⟨by simpa using hj, h.1, h.2⟩
    · split
      · simp only [List.all_cons, Bool.and_eq_true]; exact ⟨by simpa using hj, h.2⟩
      · simp only [List.all_cons, Bool.and_eq_true]; exact ⟨h.1, ih h.2⟩

/-- A write inside the buffer keeps the canonical form. -/
theorem Memory.wf_write (m : Memory) (size j : Nat) (c : Byte) (h : Memory.wf size m = true) (hj : j < size) :
    Memory.wf size (Memory.write m j c) = true := by
  simp only [Memory.wf, Bool.and_eq_true] at h ⊢
  exact ⟨Memory.rising_write m none j c h.1 (by simp), Memory.all_write m j c size h.2 hj⟩

/-- Consecutive writes inside the buffer keep the canonical form. -/
theorem Memory.wf_writeBytes (m : Memory) (size j : Nat) (cs : List Byte) (h : Memory.wf size m = true)
    (hj : j + cs.length ≤ size) : Memory.wf size (Memory.writeBytes m j cs) = true := by
  induction cs generalizing m j with
  | nil => exact h
  | cons c cs ih =>
    simp only [List.length_cons] at hj
    exact ih _ _ (Memory.wf_write m size j c h (by omega)) (by omega)

/-- The empty memory is in canonical form. -/
@[simp] theorem Memory.wf_nil (size : Nat) : Memory.wf size [] = true := rfl

/-- Nothing is written in the empty memory. -/
@[simp] theorem Memory.read?_nil (j : Nat) : Memory.read? [] j = none := rfl

/-- The reset state's buffers are in canonical form, whatever the parameters. -/
theorem State.resetWith_wf (p : Params) :
    Memory.wf p.txSize (State.resetWith p).txBuf = true ∧ Memory.wf p.rxCap (State.resetWith p).rxBuf = true :=
  ⟨rfl, rfl⟩

end Sys2Proof.Machine
end

