-- ==== Sys2Proof/Laws/State.lean ====
section
/-!
SUPPORT. What each named update of the state leaves in each field, one lemma per field per update, so that no later
proof unfolds a record update.
-/

namespace Sys2Proof.Machine

variable (s : State)

/-! ### setBus -/

@[simp] theorem State.setBus_params (b : BusState) : (s.setBus b).params = s.params := rfl
@[simp] theorem State.setBus_busState (b : BusState) : (s.setBus b).busState = b := rfl
@[simp] theorem State.setBus_repStart (b : BusState) : (s.setBus b).repStart = s.repStart := rfl
@[simp] theorem State.setBus_lastErr (b : BusState) : (s.setBus b).lastErr = s.lastErr := rfl
@[simp] theorem State.setBus_txBuf (b : BusState) : (s.setBus b).txBuf = s.txBuf := rfl
@[simp] theorem State.setBus_txIndex (b : BusState) : (s.setBus b).txIndex = s.txIndex := rfl
@[simp] theorem State.setBus_txLen (b : BusState) : (s.setBus b).txLen = s.txLen := rfl
@[simp] theorem State.setBus_rxBuf (b : BusState) : (s.setBus b).rxBuf = s.rxBuf := rfl
@[simp] theorem State.setBus_rxIndex (b : BusState) : (s.setBus b).rxIndex = s.rxIndex := rfl
@[simp] theorem State.setBus_rxLen (b : BusState) : (s.setBus b).rxLen = s.rxLen := rfl
@[simp] theorem State.setBus_mode (b : BusState) : (s.setBus b).mode = s.mode := rfl
@[simp] theorem State.setBus_addrMatch (b : BusState) : (s.setBus b).addrMatch = s.addrMatch := rfl
@[simp] theorem State.setBus_data (b : BusState) : (s.setBus b).data = s.data := rfl
@[simp] theorem State.setBus_ctl (b : BusState) : (s.setBus b).ctl = s.ctl := rfl
@[simp] theorem State.setBus_cmd (b : BusState) : (s.setBus b).cmd = s.cmd := rfl
@[simp] theorem State.setBus_pending (b : BusState) : (s.setBus b).pending = s.pending := rfl
@[simp] theorem State.setBus_openReq (b : BusState) : (s.setBus b).openReq = s.openReq := rfl
@[simp] theorem State.setBus_trace (b : BusState) : (s.setBus b).trace = s.trace := rfl
@[simp] theorem State.setBus_replies (b : BusState) : (s.setBus b).replies = s.replies := rfl
@[simp] theorem State.setBus_requests (b : BusState) : (s.setBus b).requests = s.requests := rfl
@[simp] theorem State.setBus_turns (b : BusState) : (s.setBus b).turns = s.turns := rfl
@[simp] theorem State.setBus_resets (b : BusState) : (s.setBus b).resets = s.resets := rfl

/-! ### setTxIndex -/

@[simp] theorem State.setTxIndex_params (i : Nat) : (s.setTxIndex i).params = s.params := rfl
@[simp] theorem State.setTxIndex_busState (i : Nat) : (s.setTxIndex i).busState = s.busState := rfl
@[simp] theorem State.setTxIndex_repStart (i : Nat) : (s.setTxIndex i).repStart = s.repStart := rfl
@[simp] theorem State.setTxIndex_lastErr (i : Nat) : (s.setTxIndex i).lastErr = s.lastErr := rfl
@[simp] theorem State.setTxIndex_txBuf (i : Nat) : (s.setTxIndex i).txBuf = s.txBuf := rfl
@[simp] theorem State.setTxIndex_txIndex (i : Nat) : (s.setTxIndex i).txIndex = i := rfl
@[simp] theorem State.setTxIndex_txLen (i : Nat) : (s.setTxIndex i).txLen = s.txLen := rfl
@[simp] theorem State.setTxIndex_rxBuf (i : Nat) : (s.setTxIndex i).rxBuf = s.rxBuf := rfl
@[simp] theorem State.setTxIndex_rxIndex (i : Nat) : (s.setTxIndex i).rxIndex = s.rxIndex := rfl
@[simp] theorem State.setTxIndex_rxLen (i : Nat) : (s.setTxIndex i).rxLen = s.rxLen := rfl
@[simp] theorem State.setTxIndex_mode (i : Nat) : (s.setTxIndex i).mode = s.mode := rfl
@[simp] theorem State.setTxIndex_addrMatch (i : Nat) : (s.setTxIndex i).addrMatch = s.addrMatch := rfl
@[simp] theorem State.setTxIndex_data (i : Nat) : (s.setTxIndex i).data = s.data := rfl
@[simp] theorem State.setTxIndex_ctl (i : Nat) : (s.setTxIndex i).ctl = s.ctl := rfl
@[simp] theorem State.setTxIndex_cmd (i : Nat) : (s.setTxIndex i).cmd = s.cmd := rfl
@[simp] theorem State.setTxIndex_pending (i : Nat) : (s.setTxIndex i).pending = s.pending := rfl
@[simp] theorem State.setTxIndex_openReq (i : Nat) : (s.setTxIndex i).openReq = s.openReq := rfl
@[simp] theorem State.setTxIndex_trace (i : Nat) : (s.setTxIndex i).trace = s.trace := rfl
@[simp] theorem State.setTxIndex_replies (i : Nat) : (s.setTxIndex i).replies = s.replies := rfl
@[simp] theorem State.setTxIndex_requests (i : Nat) : (s.setTxIndex i).requests = s.requests := rfl
@[simp] theorem State.setTxIndex_turns (i : Nat) : (s.setTxIndex i).turns = s.turns := rfl
@[simp] theorem State.setTxIndex_resets (i : Nat) : (s.setTxIndex i).resets = s.resets := rfl

/-! ### setRxIndex -/

@[simp] theorem State.setRxIndex_params (i : Nat) : (s.setRxIndex i).params = s.params := rfl
@[simp] theorem State.setRxIndex_busState (i : Nat) : (s.setRxIndex i).busState = s.busState := rfl
@[simp] theorem State.setRxIndex_repStart (i : Nat) : (s.setRxIndex i).repStart = s.repStart := rfl
@[simp] theorem State.setRxIndex_lastErr (i : Nat) : (s.setRxIndex i).lastErr = s.lastErr := rfl
@[simp] theorem State.setRxIndex_txBuf (i : Nat) : (s.setRxIndex i).txBuf = s.txBuf := rfl
@[simp] theorem State.setRxIndex_txIndex (i : Nat) : (s.setRxIndex i).txIndex = s.txIndex := rfl
@[simp] theorem State.setRxIndex_txLen (i : Nat) : (s.setRxIndex i).txLen = s.txLen := rfl
@[simp] theorem State.setRxIndex_rxBuf (i : Nat) : (s.setRxIndex i).rxBuf = s.rxBuf := rfl
@[simp] theorem State.setRxIndex_rxIndex (i : Nat) : (s.setRxIndex i).rxIndex = i := rfl
@[simp] theorem State.setRxIndex_rxLen (i : Nat) : (s.setRxIndex i).rxLen = s.rxLen := rfl
@[simp] theorem State.setRxIndex_mode (i : Nat) : (s.setRxIndex i).mode = s.mode := rfl
@[simp] theorem State.setRxIndex_addrMatch (i : Nat) : (s.setRxIndex i).addrMatch = s.addrMatch := rfl
@[simp] theorem State.setRxIndex_data (i : Nat) : (s.setRxIndex i).data = s.data := rfl
@[simp] theorem State.setRxIndex_ctl (i : Nat) : (s.setRxIndex i).ctl = s.ctl := rfl
@[simp] theorem State.setRxIndex_cmd (i : Nat) : (s.setRxIndex i).cmd = s.cmd := rfl
@[simp] theorem State.setRxIndex_pending (i : Nat) : (s.setRxIndex i).pending = s.pending := rfl
@[simp] theorem State.setRxIndex_openReq (i : Nat) : (s.setRxIndex i).openReq = s.openReq := rfl
@[simp] theorem State.setRxIndex_trace (i : Nat) : (s.setRxIndex i).trace = s.trace := rfl
@[simp] theorem State.setRxIndex_replies (i : Nat) : (s.setRxIndex i).replies = s.replies := rfl
@[simp] theorem State.setRxIndex_requests (i : Nat) : (s.setRxIndex i).requests = s.requests := rfl
@[simp] theorem State.setRxIndex_turns (i : Nat) : (s.setRxIndex i).turns = s.turns := rfl
@[simp] theorem State.setRxIndex_resets (i : Nat) : (s.setRxIndex i).resets = s.resets := rfl

/-! ### setRxLen -/

@[simp] theorem State.setRxLen_params (n : Nat) : (s.setRxLen n).params = s.params := rfl
@[simp] theorem State.setRxLen_busState (n : Nat) : (s.setRxLen n).busState = s.busState := rfl
@[simp] theorem State.setRxLen_repStart (n : Nat) : (s.setRxLen n).repStart = s.repStart := rfl
@[simp] theorem State.setRxLen_lastErr (n : Nat) : (s.setRxLen n).lastErr = s.lastErr := rfl
@[simp] theorem State.setRxLen_txBuf (n : Nat) : (s.setRxLen n).txBuf = s.txBuf := rfl
@[simp] theorem State.setRxLen_txIndex (n : Nat) : (s.setRxLen n).txIndex = s.txIndex := rfl
@[simp] theorem State.setRxLen_txLen (n : Nat) : (s.setRxLen n).txLen = s.txLen := rfl
@[simp] theorem State.setRxLen_rxBuf (n : Nat) : (s.setRxLen n).rxBuf = s.rxBuf := rfl
@[simp] theorem State.setRxLen_rxIndex (n : Nat) : (s.setRxLen n).rxIndex = s.rxIndex := rfl
@[simp] theorem State.setRxLen_rxLen (n : Nat) : (s.setRxLen n).rxLen = n := rfl
@[simp] theorem State.setRxLen_mode (n : Nat) : (s.setRxLen n).mode = s.mode := rfl
@[simp] theorem State.setRxLen_addrMatch (n : Nat) : (s.setRxLen n).addrMatch = s.addrMatch := rfl
@[simp] theorem State.setRxLen_data (n : Nat) : (s.setRxLen n).data = s.data := rfl
@[simp] theorem State.setRxLen_ctl (n : Nat) : (s.setRxLen n).ctl = s.ctl := rfl
@[simp] theorem State.setRxLen_cmd (n : Nat) : (s.setRxLen n).cmd = s.cmd := rfl
@[simp] theorem State.setRxLen_pending (n : Nat) : (s.setRxLen n).pending = s.pending := rfl
@[simp] theorem State.setRxLen_openReq (n : Nat) : (s.setRxLen n).openReq = s.openReq := rfl
@[simp] theorem State.setRxLen_trace (n : Nat) : (s.setRxLen n).trace = s.trace := rfl
@[simp] theorem State.setRxLen_replies (n : Nat) : (s.setRxLen n).replies = s.replies := rfl
@[simp] theorem State.setRxLen_requests (n : Nat) : (s.setRxLen n).requests = s.requests := rfl
@[simp] theorem State.setRxLen_turns (n : Nat) : (s.setRxLen n).turns = s.turns := rfl
@[simp] theorem State.setRxLen_resets (n : Nat) : (s.setRxLen n).resets = s.resets := rfl

/-! ### setRepStart -/

@[simp] theorem State.setRepStart_params (b : Bool) : (s.setRepStart b).params = s.params := rfl
@[simp] theorem State.setRepStart_busState (b : Bool) : (s.setRepStart b).busState = s.busState := rfl
@[simp] theorem State.setRepStart_repStart (b : Bool) : (s.setRepStart b).repStart = b := rfl
@[simp] theorem State.setRepStart_lastErr (b : Bool) : (s.setRepStart b).lastErr = s.lastErr := rfl
@[simp] theorem State.setRepStart_txBuf (b : Bool) : (s.setRepStart b).txBuf = s.txBuf := rfl
@[simp] theorem State.setRepStart_txIndex (b : Bool) : (s.setRepStart b).txIndex = s.txIndex := rfl
@[simp] theorem State.setRepStart_txLen (b : Bool) : (s.setRepStart b).txLen = s.txLen := rfl
@[simp] theorem State.setRepStart_rxBuf (b : Bool) : (s.setRepStart b).rxBuf = s.rxBuf := rfl
@[simp] theorem State.setRepStart_rxIndex (b : Bool) : (s.setRepStart b).rxIndex = s.rxIndex := rfl
@[simp] theorem State.setRepStart_rxLen (b : Bool) : (s.setRepStart b).rxLen = s.rxLen := rfl
@[simp] theorem State.setRepStart_mode (b : Bool) : (s.setRepStart b).mode = s.mode := rfl
@[simp] theorem State.setRepStart_addrMatch (b : Bool) : (s.setRepStart b).addrMatch = s.addrMatch := rfl
@[simp] theorem State.setRepStart_data (b : Bool) : (s.setRepStart b).data = s.data := rfl
@[simp] theorem State.setRepStart_ctl (b : Bool) : (s.setRepStart b).ctl = s.ctl := rfl
@[simp] theorem State.setRepStart_cmd (b : Bool) : (s.setRepStart b).cmd = s.cmd := rfl
@[simp] theorem State.setRepStart_pending (b : Bool) : (s.setRepStart b).pending = s.pending := rfl
@[simp] theorem State.setRepStart_openReq (b : Bool) : (s.setRepStart b).openReq = s.openReq := rfl
@[simp] theorem State.setRepStart_trace (b : Bool) : (s.setRepStart b).trace = s.trace := rfl
@[simp] theorem State.setRepStart_replies (b : Bool) : (s.setRepStart b).replies = s.replies := rfl
@[simp] theorem State.setRepStart_requests (b : Bool) : (s.setRepStart b).requests = s.requests := rfl
@[simp] theorem State.setRepStart_turns (b : Bool) : (s.setRepStart b).turns = s.turns := rfl
@[simp] theorem State.setRepStart_resets (b : Bool) : (s.setRepStart b).resets = s.resets := rfl

/-! ### setMode -/

@[simp] theorem State.setMode_params (m : Mode) : (s.setMode m).params = s.params := rfl
@[simp] theorem State.setMode_busState (m : Mode) : (s.setMode m).busState = s.busState := rfl
@[simp] theorem State.setMode_repStart (m : Mode) : (s.setMode m).repStart = s.repStart := rfl
@[simp] theorem State.setMode_lastErr (m : Mode) : (s.setMode m).lastErr = s.lastErr := rfl
@[simp] theorem State.setMode_txBuf (m : Mode) : (s.setMode m).txBuf = s.txBuf := rfl
@[simp] theorem State.setMode_txIndex (m : Mode) : (s.setMode m).txIndex = s.txIndex := rfl
@[simp] theorem State.setMode_txLen (m : Mode) : (s.setMode m).txLen = s.txLen := rfl
@[simp] theorem State.setMode_rxBuf (m : Mode) : (s.setMode m).rxBuf = s.rxBuf := rfl
@[simp] theorem State.setMode_rxIndex (m : Mode) : (s.setMode m).rxIndex = s.rxIndex := rfl
@[simp] theorem State.setMode_rxLen (m : Mode) : (s.setMode m).rxLen = s.rxLen := rfl
@[simp] theorem State.setMode_mode (m : Mode) : (s.setMode m).mode = m := rfl
@[simp] theorem State.setMode_addrMatch (m : Mode) : (s.setMode m).addrMatch = s.addrMatch := rfl
@[simp] theorem State.setMode_data (m : Mode) : (s.setMode m).data = s.data := rfl
@[simp] theorem State.setMode_ctl (m : Mode) : (s.setMode m).ctl = s.ctl := rfl
@[simp] theorem State.setMode_cmd (m : Mode) : (s.setMode m).cmd = s.cmd := rfl
@[simp] theorem State.setMode_pending (m : Mode) : (s.setMode m).pending = s.pending := rfl
@[simp] theorem State.setMode_openReq (m : Mode) : (s.setMode m).openReq = s.openReq := rfl
@[simp] theorem State.setMode_trace (m : Mode) : (s.setMode m).trace = s.trace := rfl
@[simp] theorem State.setMode_replies (m : Mode) : (s.setMode m).replies = s.replies := rfl
@[simp] theorem State.setMode_requests (m : Mode) : (s.setMode m).requests = s.requests := rfl
@[simp] theorem State.setMode_turns (m : Mode) : (s.setMode m).turns = s.turns := rfl
@[simp] theorem State.setMode_resets (m : Mode) : (s.setMode m).resets = s.resets := rfl

/-! ### setOpen -/

@[simp] theorem State.setOpen_params (r : Option OpenRequest) : (s.setOpen r).params = s.params := rfl
@[simp] theorem State.setOpen_busState (r : Option OpenRequest) : (s.setOpen r).busState = s.busState := rfl
@[simp] theorem State.setOpen_repStart (r : Option OpenRequest) : (s.setOpen r).repStart = s.repStart := rfl
@[simp] theorem State.setOpen_lastErr (r : Option OpenRequest) : (s.setOpen r).lastErr = s.lastErr := rfl
@[simp] theorem State.setOpen_txBuf (r : Option OpenRequest) : (s.setOpen r).txBuf = s.txBuf := rfl
@[simp] theorem State.setOpen_txIndex (r : Option OpenRequest) : (s.setOpen r).txIndex = s.txIndex := rfl
@[simp] theorem State.setOpen_txLen (r : Option OpenRequest) : (s.setOpen r).txLen = s.txLen := rfl
@[simp] theorem State.setOpen_rxBuf (r : Option OpenRequest) : (s.setOpen r).rxBuf = s.rxBuf := rfl
@[simp] theorem State.setOpen_rxIndex (r : Option OpenRequest) : (s.setOpen r).rxIndex = s.rxIndex := rfl
@[simp] theorem State.setOpen_rxLen (r : Option OpenRequest) : (s.setOpen r).rxLen = s.rxLen := rfl
@[simp] theorem State.setOpen_mode (r : Option OpenRequest) : (s.setOpen r).mode = s.mode := rfl
@[simp] theorem State.setOpen_addrMatch (r : Option OpenRequest) : (s.setOpen r).addrMatch = s.addrMatch := rfl
@[simp] theorem State.setOpen_data (r : Option OpenRequest) : (s.setOpen r).data = s.data := rfl
@[simp] theorem State.setOpen_ctl (r : Option OpenRequest) : (s.setOpen r).ctl = s.ctl := rfl
@[simp] theorem State.setOpen_cmd (r : Option OpenRequest) : (s.setOpen r).cmd = s.cmd := rfl
@[simp] theorem State.setOpen_pending (r : Option OpenRequest) : (s.setOpen r).pending = s.pending := rfl
@[simp] theorem State.setOpen_openReq (r : Option OpenRequest) : (s.setOpen r).openReq = r := rfl
@[simp] theorem State.setOpen_trace (r : Option OpenRequest) : (s.setOpen r).trace = s.trace := rfl
@[simp] theorem State.setOpen_replies (r : Option OpenRequest) : (s.setOpen r).replies = s.replies := rfl
@[simp] theorem State.setOpen_requests (r : Option OpenRequest) : (s.setOpen r).requests = s.requests := rfl
@[simp] theorem State.setOpen_turns (r : Option OpenRequest) : (s.setOpen r).turns = s.turns := rfl
@[simp] theorem State.setOpen_resets (r : Option OpenRequest) : (s.setOpen r).resets = s.resets := rfl

/-! ### writeData -/

@[simp] theorem State.writeData_params (b : Byte) : (s.writeData b).params = s.params := rfl
@[simp] theorem State.writeData_busState (b : Byte) : (s.writeData b).busState = s.busState := rfl
@[simp] theorem State.writeData_repStart (b : Byte) : (s.writeData b).repStart = s.repStart := rfl
@[simp] theorem State.writeData_lastErr (b : Byte) : (s.writeData b).lastErr = s.lastErr := rfl
@[simp] theorem State.writeData_txBuf (b : Byte) : (s.writeData b).txBuf = s.txBuf := rfl
@[simp] theorem State.writeData_txIndex (b : Byte) : (s.writeData b).txIndex = s.txIndex := rfl
@[simp] theorem State.writeData_txLen (b : Byte) : (s.writeData b).txLen = s.txLen := rfl
@[simp] theorem State.writeData_rxBuf (b : Byte) : (s.writeData b).rxBuf = s.rxBuf := rfl
@[simp] theorem State.writeData_rxIndex (b : Byte) : (s.writeData b).rxIndex = s.rxIndex := rfl
@[simp] theorem State.writeData_rxLen (b : Byte) : (s.writeData b).rxLen = s.rxLen := rfl
@[simp] theorem State.writeData_mode (b : Byte) : (s.writeData b).mode = s.mode := rfl
@[simp] theorem State.writeData_addrMatch (b : Byte) : (s.writeData b).addrMatch = s.addrMatch := rfl
@[simp] theorem State.writeData_data (b : Byte) : (s.writeData b).data = b := rfl
@[simp] theorem State.writeData_ctl (b : Byte) : (s.writeData b).ctl = s.ctl := rfl
@[simp] theorem State.writeData_cmd (b : Byte) : (s.writeData b).cmd = s.cmd := rfl
@[simp] theorem State.writeData_pending (b : Byte) : (s.writeData b).pending = s.pending := rfl
@[simp] theorem State.writeData_openReq (b : Byte) : (s.writeData b).openReq = s.openReq := rfl
@[simp] theorem State.writeData_trace (b : Byte) : (s.writeData b).trace = s.trace ++ [.data b] := rfl
@[simp] theorem State.writeData_replies (b : Byte) : (s.writeData b).replies = s.replies := rfl
@[simp] theorem State.writeData_requests (b : Byte) : (s.writeData b).requests = s.requests := rfl
@[simp] theorem State.writeData_turns (b : Byte) : (s.writeData b).turns = s.turns := rfl
@[simp] theorem State.writeData_resets (b : Byte) : (s.writeData b).resets = s.resets := rfl

/-! ### issue -/

@[simp] theorem State.issue_params (c : Command) : (s.issue c).params = s.params := rfl
@[simp] theorem State.issue_busState (c : Command) : (s.issue c).busState = s.busState := rfl
@[simp] theorem State.issue_repStart (c : Command) : (s.issue c).repStart = s.repStart := rfl
@[simp] theorem State.issue_lastErr (c : Command) : (s.issue c).lastErr = s.lastErr := rfl
@[simp] theorem State.issue_txBuf (c : Command) : (s.issue c).txBuf = s.txBuf := rfl
@[simp] theorem State.issue_txIndex (c : Command) : (s.issue c).txIndex = s.txIndex := rfl
@[simp] theorem State.issue_txLen (c : Command) : (s.issue c).txLen = s.txLen := rfl
@[simp] theorem State.issue_rxBuf (c : Command) : (s.issue c).rxBuf = s.rxBuf := rfl
@[simp] theorem State.issue_rxIndex (c : Command) : (s.issue c).rxIndex = s.rxIndex := rfl
@[simp] theorem State.issue_rxLen (c : Command) : (s.issue c).rxLen = s.rxLen := rfl
@[simp] theorem State.issue_mode (c : Command) : (s.issue c).mode = s.mode := rfl
@[simp] theorem State.issue_addrMatch (c : Command) : (s.issue c).addrMatch = s.addrMatch := rfl
@[simp] theorem State.issue_data (c : Command) : (s.issue c).data = s.data := rfl
@[simp] theorem State.issue_ctl (c : Command) : (s.issue c).ctl = s.params.ctl.pattern c := rfl
@[simp] theorem State.issue_cmd (c : Command) : (s.issue c).cmd = some (commandCode c) := rfl
@[simp] theorem State.issue_pending (c : Command) : (s.issue c).pending = false := rfl
@[simp] theorem State.issue_openReq (c : Command) : (s.issue c).openReq = s.openReq := rfl
@[simp] theorem State.issue_trace (c : Command) : (s.issue c).trace = s.trace ++ [.cmd c] := rfl
@[simp] theorem State.issue_replies (c : Command) : (s.issue c).replies = s.replies := rfl
@[simp] theorem State.issue_requests (c : Command) : (s.issue c).requests = s.requests := rfl
@[simp] theorem State.issue_turns (c : Command) : (s.issue c).turns = s.turns := rfl
@[simp] theorem State.issue_resets (c : Command) : (s.issue c).resets = s.resets := rfl

/-! ### writeAddr -/

@[simp] theorem State.writeAddr_params (v : Byte) : (s.writeAddr v).params = s.params := rfl
@[simp] theorem State.writeAddr_busState (v : Byte) : (s.writeAddr v).busState = s.busState := rfl
@[simp] theorem State.writeAddr_repStart (v : Byte) : (s.writeAddr v).repStart = s.repStart := rfl
@[simp] theorem State.writeAddr_lastErr (v : Byte) : (s.writeAddr v).lastErr = s.lastErr := rfl
@[simp] theorem State.writeAddr_txBuf (v : Byte) : (s.writeAddr v).txBuf = s.txBuf := rfl
@[simp] theorem State.writeAddr_txIndex (v : Byte) : (s.writeAddr v).txIndex = s.txIndex := rfl
@[simp] theorem State.writeAddr_txLen (v : Byte) : (s.writeAddr v).txLen = s.txLen := rfl
@[simp] theorem State.writeAddr_rxBuf (v : Byte) : (s.writeAddr v).rxBuf = s.rxBuf := rfl
@[simp] theorem State.writeAddr_rxIndex (v : Byte) : (s.writeAddr v).rxIndex = s.rxIndex := rfl
@[simp] theorem State.writeAddr_rxLen (v : Byte) : (s.writeAddr v).rxLen = s.rxLen := rfl
@[simp] theorem State.writeAddr_mode (v : Byte) : (s.writeAddr v).mode = s.mode := rfl
@[simp] theorem State.writeAddr_addrMatch (v : Byte) : (s.writeAddr v).addrMatch = v := rfl
@[simp] theorem State.writeAddr_data (v : Byte) : (s.writeAddr v).data = s.data := rfl
@[simp] theorem State.writeAddr_ctl (v : Byte) : (s.writeAddr v).ctl = s.ctl := rfl
@[simp] theorem State.writeAddr_cmd (v : Byte) : (s.writeAddr v).cmd = s.cmd := rfl
@[simp] theorem State.writeAddr_pending (v : Byte) : (s.writeAddr v).pending = s.pending := rfl
@[simp] theorem State.writeAddr_openReq (v : Byte) : (s.writeAddr v).openReq = s.openReq := rfl
@[simp] theorem State.writeAddr_trace (v : Byte) : (s.writeAddr v).trace = s.trace ++ [.addr v] := rfl
@[simp] theorem State.writeAddr_replies (v : Byte) : (s.writeAddr v).replies = s.replies := rfl
@[simp] theorem State.writeAddr_requests (v : Byte) : (s.writeAddr v).requests = s.requests := rfl
@[simp] theorem State.writeAddr_turns (v : Byte) : (s.writeAddr v).turns = s.turns := rfl
@[simp] theorem State.writeAddr_resets (v : Byte) : (s.writeAddr v).resets = s.resets := rfl

/-! ### arm -/

@[simp] theorem State.arm_params : s.arm.params = s.params := rfl
@[simp] theorem State.arm_busState : s.arm.busState = s.busState := rfl
@[simp] theorem State.arm_repStart : s.arm.repStart = s.repStart := rfl
@[simp] theorem State.arm_lastErr : s.arm.lastErr = s.lastErr := rfl
@[simp] theorem State.arm_txBuf : s.arm.txBuf = s.txBuf := rfl
@[simp] theorem State.arm_txIndex : s.arm.txIndex = s.txIndex := rfl
@[simp] theorem State.arm_txLen : s.arm.txLen = s.txLen := rfl
@[simp] theorem State.arm_rxBuf : s.arm.rxBuf = s.rxBuf := rfl
@[simp] theorem State.arm_rxIndex : s.arm.rxIndex = s.rxIndex := rfl
@[simp] theorem State.arm_rxLen : s.arm.rxLen = s.rxLen := rfl
@[simp] theorem State.arm_mode : s.arm.mode = s.mode := rfl
@[simp] theorem State.arm_addrMatch : s.arm.addrMatch = s.addrMatch := rfl
@[simp] theorem State.arm_data : s.arm.data = s.data := rfl
@[simp] theorem State.arm_ctl : s.arm.ctl = 0x05#8 := rfl
@[simp] theorem State.arm_cmd : s.arm.cmd = s.cmd := rfl
@[simp] theorem State.arm_pending : s.arm.pending = s.pending := rfl
@[simp] theorem State.arm_openReq : s.arm.openReq = s.openReq := rfl
@[simp] theorem State.arm_trace : s.arm.trace = s.trace ++ [.arm] := rfl
@[simp] theorem State.arm_replies : s.arm.replies = s.replies := rfl
@[simp] theorem State.arm_requests : s.arm.requests = s.requests := rfl
@[simp] theorem State.arm_turns : s.arm.turns = s.turns := rfl
@[simp] theorem State.arm_resets : s.arm.resets = s.resets := rfl

/-! ### recordError -/

@[simp] theorem State.recordError_params (k : Byte) : (s.recordError k).params = s.params := rfl
@[simp] theorem State.recordError_busState (k : Byte) : (s.recordError k).busState = s.busState := rfl
@[simp] theorem State.recordError_repStart (k : Byte) : (s.recordError k).repStart = s.repStart := rfl
@[simp] theorem State.recordError_lastErr (k : Byte) : (s.recordError k).lastErr = some k := rfl
@[simp] theorem State.recordError_txBuf (k : Byte) : (s.recordError k).txBuf = s.txBuf := rfl
@[simp] theorem State.recordError_txIndex (k : Byte) : (s.recordError k).txIndex = s.txIndex := rfl
@[simp] theorem State.recordError_txLen (k : Byte) : (s.recordError k).txLen = s.txLen := rfl
@[simp] theorem State.recordError_rxBuf (k : Byte) : (s.recordError k).rxBuf = s.rxBuf := rfl
@[simp] theorem State.recordError_rxIndex (k : Byte) : (s.recordError k).rxIndex = s.rxIndex := rfl
@[simp] theorem State.recordError_rxLen (k : Byte) : (s.recordError k).rxLen = s.rxLen := rfl
@[simp] theorem State.recordError_mode (k : Byte) : (s.recordError k).mode = s.mode := rfl
@[simp] theorem State.recordError_addrMatch (k : Byte) : (s.recordError k).addrMatch = s.addrMatch := rfl
@[simp] theorem State.recordError_data (k : Byte) : (s.recordError k).data = s.data := rfl
@[simp] theorem State.recordError_ctl (k : Byte) : (s.recordError k).ctl = s.ctl := rfl
@[simp] theorem State.recordError_cmd (k : Byte) : (s.recordError k).cmd = s.cmd := rfl
@[simp] theorem State.recordError_pending (k : Byte) : (s.recordError k).pending = s.pending := rfl
@[simp] theorem State.recordError_openReq (k : Byte) : (s.recordError k).openReq = s.openReq := rfl
@[simp] theorem State.recordError_trace (k : Byte) : (s.recordError k).trace = s.trace := rfl
@[simp] theorem State.recordError_replies (k : Byte) : (s.recordError k).replies = s.replies := rfl
@[simp] theorem State.recordError_requests (k : Byte) : (s.recordError k).requests = s.requests := rfl
@[simp] theorem State.recordError_turns (k : Byte) : (s.recordError k).turns = s.turns := rfl
@[simp] theorem State.recordError_resets (k : Byte) : (s.recordError k).resets = s.resets := rfl

/-! ### reply -/

@[simp] theorem State.reply_params (r : Reply) : (s.reply r).params = s.params := rfl
@[simp] theorem State.reply_busState (r : Reply) : (s.reply r).busState = s.busState := rfl
@[simp] theorem State.reply_repStart (r : Reply) : (s.reply r).repStart = s.repStart := rfl
@[simp] theorem State.reply_lastErr (r : Reply) : (s.reply r).lastErr = s.lastErr := rfl
@[simp] theorem State.reply_txBuf (r : Reply) : (s.reply r).txBuf = s.txBuf := rfl
@[simp] theorem State.reply_txIndex (r : Reply) : (s.reply r).txIndex = s.txIndex := rfl
@[simp] theorem State.reply_txLen (r : Reply) : (s.reply r).txLen = s.txLen := rfl
@[simp] theorem State.reply_rxBuf (r : Reply) : (s.reply r).rxBuf = s.rxBuf := rfl
@[simp] theorem State.reply_rxIndex (r : Reply) : (s.reply r).rxIndex = s.rxIndex := rfl
@[simp] theorem State.reply_rxLen (r : Reply) : (s.reply r).rxLen = s.rxLen := rfl
@[simp] theorem State.reply_mode (r : Reply) : (s.reply r).mode = s.mode := rfl
@[simp] theorem State.reply_addrMatch (r : Reply) : (s.reply r).addrMatch = s.addrMatch := rfl
@[simp] theorem State.reply_data (r : Reply) : (s.reply r).data = s.data := rfl
@[simp] theorem State.reply_ctl (r : Reply) : (s.reply r).ctl = s.ctl := rfl
@[simp] theorem State.reply_cmd (r : Reply) : (s.reply r).cmd = s.cmd := rfl
@[simp] theorem State.reply_pending (r : Reply) : (s.reply r).pending = s.pending := rfl
@[simp] theorem State.reply_openReq (r : Reply) : (s.reply r).openReq = s.openReq := rfl
@[simp] theorem State.reply_trace (r : Reply) : (s.reply r).trace = s.trace := rfl
@[simp] theorem State.reply_replies (r : Reply) : (s.reply r).replies = s.replies ++ [r] := rfl
@[simp] theorem State.reply_requests (r : Reply) : (s.reply r).requests = s.requests := rfl
@[simp] theorem State.reply_turns (r : Reply) : (s.reply r).turns = s.turns := rfl
@[simp] theorem State.reply_resets (r : Reply) : (s.reply r).resets = s.resets := rfl

/-! ### stageTx -/

@[simp] theorem State.stageTx_params (b0 : Byte) (p : List Byte) (n : Nat) : (s.stageTx b0 p n).params = s.params := rfl
@[simp] theorem State.stageTx_busState (b0 : Byte) (p : List Byte) (n : Nat) : (s.stageTx b0 p n).busState = s.busState := rfl
@[simp] theorem State.stageTx_repStart (b0 : Byte) (p : List Byte) (n : Nat) : (s.stageTx b0 p n).repStart = s.repStart := rfl
@[simp] theorem State.stageTx_lastErr (b0 : Byte) (p : List Byte) (n : Nat) : (s.stageTx b0 p n).lastErr = s.lastErr := rfl
@[simp] theorem State.stageTx_txBuf (b0 : Byte) (p : List Byte) (n : Nat) : (s.stageTx b0 p n).txBuf = Memory.writeBytes s.txBuf 0 (stagedBytes b0 p n) := rfl
@[simp] theorem State.stageTx_txIndex (b0 : Byte) (p : List Byte) (n : Nat) : (s.stageTx b0 p n).txIndex = 0 := rfl
@[simp] theorem State.stageTx_txLen (b0 : Byte) (p : List Byte) (n : Nat) : (s.stageTx b0 p n).txLen = n + 1 := rfl
@[simp] theorem State.stageTx_rxBuf (b0 : Byte) (p : List Byte) (n : Nat) : (s.stageTx b0 p n).rxBuf = s.rxBuf := rfl
@[simp] theorem State.stageTx_rxIndex (b0 : Byte) (p : List Byte) (n : Nat) : (s.stageTx b0 p n).rxIndex = s.rxIndex := rfl
@[simp] theorem State.stageTx_rxLen (b0 : Byte) (p : List Byte) (n : Nat) : (s.stageTx b0 p n).rxLen = s.rxLen := rfl
@[simp] theorem State.stageTx_mode (b0 : Byte) (p : List Byte) (n : Nat) : (s.stageTx b0 p n).mode = s.mode := rfl
@[simp] theorem State.stageTx_addrMatch (b0 : Byte) (p : List Byte) (n : Nat) : (s.stageTx b0 p n).addrMatch = s.addrMatch := rfl
@[simp] theorem State.stageTx_data (b0 : Byte) (p : List Byte) (n : Nat) : (s.stageTx b0 p n).data = s.data := rfl
@[simp] theorem State.stageTx_ctl (b0 : Byte) (p : List Byte) (n : Nat) : (s.stageTx b0 p n).ctl = s.ctl := rfl
@[simp] theorem State.stageTx_cmd (b0 : Byte) (p : List Byte) (n : Nat) : (s.stageTx b0 p n).cmd = s.cmd := rfl
@[simp] theorem State.stageTx_pending (b0 : Byte) (p : List Byte) (n : Nat) : (s.stageTx b0 p n).pending = s.pending := rfl
@[simp] theorem State.stageTx_openReq (b0 : Byte) (p : List Byte) (n : Nat) : (s.stageTx b0 p n).openReq = s.openReq := rfl
@[simp] theorem State.stageTx_trace (b0 : Byte) (p : List Byte) (n : Nat) : (s.stageTx b0 p n).trace = s.trace := rfl
@[simp] theorem State.stageTx_replies (b0 : Byte) (p : List Byte) (n : Nat) : (s.stageTx b0 p n).replies = s.replies := rfl
@[simp] theorem State.stageTx_requests (b0 : Byte) (p : List Byte) (n : Nat) : (s.stageTx b0 p n).requests = s.requests := rfl
@[simp] theorem State.stageTx_turns (b0 : Byte) (p : List Byte) (n : Nat) : (s.stageTx b0 p n).turns = s.turns := rfl
@[simp] theorem State.stageTx_resets (b0 : Byte) (p : List Byte) (n : Nat) : (s.stageTx b0 p n).resets = s.resets := rfl

/-! ### stageSlaveTx -/

@[simp] theorem State.stageSlaveTx_params (p : List Byte) (k : Nat) : (s.stageSlaveTx p k).params = s.params := rfl
@[simp] theorem State.stageSlaveTx_busState (p : List Byte) (k : Nat) : (s.stageSlaveTx p k).busState = s.busState := rfl
@[simp] theorem State.stageSlaveTx_repStart (p : List Byte) (k : Nat) : (s.stageSlaveTx p k).repStart = s.repStart := rfl
@[simp] theorem State.stageSlaveTx_lastErr (p : List Byte) (k : Nat) : (s.stageSlaveTx p k).lastErr = s.lastErr := rfl
@[simp] theorem State.stageSlaveTx_txBuf (p : List Byte) (k : Nat) : (s.stageSlaveTx p k).txBuf = Memory.writeBytes s.txBuf 0 (p.take k) := rfl
@[simp] theorem State.stageSlaveTx_txIndex (p : List Byte) (k : Nat) : (s.stageSlaveTx p k).txIndex = 0 := rfl
@[simp] theorem State.stageSlaveTx_txLen (p : List Byte) (k : Nat) : (s.stageSlaveTx p k).txLen = k := rfl
@[simp] theorem State.stageSlaveTx_rxBuf (p : List Byte) (k : Nat) : (s.stageSlaveTx p k).rxBuf = s.rxBuf := rfl
@[simp] theorem State.stageSlaveTx_rxIndex (p : List Byte) (k : Nat) : (s.stageSlaveTx p k).rxIndex = s.rxIndex := rfl
@[simp] theorem State.stageSlaveTx_rxLen (p : List Byte) (k : Nat) : (s.stageSlaveTx p k).rxLen = s.rxLen := rfl
@[simp] theorem State.stageSlaveTx_mode (p : List Byte) (k : Nat) : (s.stageSlaveTx p k).mode = s.mode := rfl
@[simp] theorem State.stageSlaveTx_addrMatch (p : List Byte) (k : Nat) : (s.stageSlaveTx p k).addrMatch = s.addrMatch := rfl
@[simp] theorem State.stageSlaveTx_data (p : List Byte) (k : Nat) : (s.stageSlaveTx p k).data = s.data := rfl
@[simp] theorem State.stageSlaveTx_ctl (p : List Byte) (k : Nat) : (s.stageSlaveTx p k).ctl = s.ctl := rfl
@[simp] theorem State.stageSlaveTx_cmd (p : List Byte) (k : Nat) : (s.stageSlaveTx p k).cmd = s.cmd := rfl
@[simp] theorem State.stageSlaveTx_pending (p : List Byte) (k : Nat) : (s.stageSlaveTx p k).pending = s.pending := rfl
@[simp] theorem State.stageSlaveTx_openReq (p : List Byte) (k : Nat) : (s.stageSlaveTx p k).openReq = s.openReq := rfl
@[simp] theorem State.stageSlaveTx_trace (p : List Byte) (k : Nat) : (s.stageSlaveTx p k).trace = s.trace := rfl
@[simp] theorem State.stageSlaveTx_replies (p : List Byte) (k : Nat) : (s.stageSlaveTx p k).replies = s.replies := rfl
@[simp] theorem State.stageSlaveTx_requests (p : List Byte) (k : Nat) : (s.stageSlaveTx p k).requests = s.requests := rfl
@[simp] theorem State.stageSlaveTx_turns (p : List Byte) (k : Nat) : (s.stageSlaveTx p k).turns = s.turns := rfl
@[simp] theorem State.stageSlaveTx_resets (p : List Byte) (k : Nat) : (s.stageSlaveTx p k).resets = s.resets := rfl

/-! ### stageRx -/

@[simp] theorem State.stageRx_params (n : Nat) : (s.stageRx n).params = s.params := rfl
@[simp] theorem State.stageRx_busState (n : Nat) : (s.stageRx n).busState = s.busState := rfl
@[simp] theorem State.stageRx_repStart (n : Nat) : (s.stageRx n).repStart = s.repStart := rfl
@[simp] theorem State.stageRx_lastErr (n : Nat) : (s.stageRx n).lastErr = s.lastErr := rfl
@[simp] theorem State.stageRx_txBuf (n : Nat) : (s.stageRx n).txBuf = s.txBuf := rfl
@[simp] theorem State.stageRx_txIndex (n : Nat) : (s.stageRx n).txIndex = s.txIndex := rfl
@[simp] theorem State.stageRx_txLen (n : Nat) : (s.stageRx n).txLen = s.txLen := rfl
@[simp] theorem State.stageRx_rxBuf (n : Nat) : (s.stageRx n).rxBuf = s.rxBuf := rfl
@[simp] theorem State.stageRx_rxIndex (n : Nat) : (s.stageRx n).rxIndex = 0 := rfl
@[simp] theorem State.stageRx_rxLen (n : Nat) : (s.stageRx n).rxLen = n := rfl
@[simp] theorem State.stageRx_mode (n : Nat) : (s.stageRx n).mode = s.mode := rfl
@[simp] theorem State.stageRx_addrMatch (n : Nat) : (s.stageRx n).addrMatch = s.addrMatch := rfl
@[simp] theorem State.stageRx_data (n : Nat) : (s.stageRx n).data = s.data := rfl
@[simp] theorem State.stageRx_ctl (n : Nat) : (s.stageRx n).ctl = s.ctl := rfl
@[simp] theorem State.stageRx_cmd (n : Nat) : (s.stageRx n).cmd = s.cmd := rfl
@[simp] theorem State.stageRx_pending (n : Nat) : (s.stageRx n).pending = s.pending := rfl
@[simp] theorem State.stageRx_openReq (n : Nat) : (s.stageRx n).openReq = s.openReq := rfl
@[simp] theorem State.stageRx_trace (n : Nat) : (s.stageRx n).trace = s.trace := rfl
@[simp] theorem State.stageRx_replies (n : Nat) : (s.stageRx n).replies = s.replies := rfl
@[simp] theorem State.stageRx_requests (n : Nat) : (s.stageRx n).requests = s.requests := rfl
@[simp] theorem State.stageRx_turns (n : Nat) : (s.stageRx n).turns = s.turns := rfl
@[simp] theorem State.stageRx_resets (n : Nat) : (s.stageRx n).resets = s.resets := rfl

/-! ### clearTransfer -/

@[simp] theorem State.clearTransfer_params : s.clearTransfer.params = s.params := rfl
@[simp] theorem State.clearTransfer_busState : s.clearTransfer.busState = .available := rfl
@[simp] theorem State.clearTransfer_repStart : s.clearTransfer.repStart = false := rfl
@[simp] theorem State.clearTransfer_lastErr : s.clearTransfer.lastErr = s.lastErr := rfl
@[simp] theorem State.clearTransfer_txBuf : s.clearTransfer.txBuf = s.txBuf := rfl
@[simp] theorem State.clearTransfer_txIndex : s.clearTransfer.txIndex = 0 := rfl
@[simp] theorem State.clearTransfer_txLen : s.clearTransfer.txLen = 0 := rfl
@[simp] theorem State.clearTransfer_rxBuf : s.clearTransfer.rxBuf = s.rxBuf := rfl
@[simp] theorem State.clearTransfer_rxIndex : s.clearTransfer.rxIndex = 0 := rfl
@[simp] theorem State.clearTransfer_rxLen : s.clearTransfer.rxLen = 0 := rfl
@[simp] theorem State.clearTransfer_mode : s.clearTransfer.mode = s.mode := rfl
@[simp] theorem State.clearTransfer_addrMatch : s.clearTransfer.addrMatch = s.addrMatch := rfl
@[simp] theorem State.clearTransfer_data : s.clearTransfer.data = s.data := rfl
@[simp] theorem State.clearTransfer_ctl : s.clearTransfer.ctl = s.ctl := rfl
@[simp] theorem State.clearTransfer_cmd : s.clearTransfer.cmd = s.cmd := rfl
@[simp] theorem State.clearTransfer_pending : s.clearTransfer.pending = s.pending := rfl
@[simp] theorem State.clearTransfer_openReq : s.clearTransfer.openReq = s.openReq := rfl
@[simp] theorem State.clearTransfer_trace : s.clearTransfer.trace = s.trace := rfl
@[simp] theorem State.clearTransfer_replies : s.clearTransfer.replies = s.replies := rfl
@[simp] theorem State.clearTransfer_requests : s.clearTransfer.requests = s.requests := rfl
@[simp] theorem State.clearTransfer_turns : s.clearTransfer.turns = s.turns := rfl
@[simp] theorem State.clearTransfer_resets : s.clearTransfer.resets = s.resets := rfl

/-! ### beginTurn -/

@[simp] theorem State.beginTurn_params (ts : List Turn) : (s.beginTurn ts).params = s.params := rfl
@[simp] theorem State.beginTurn_busState (ts : List Turn) : (s.beginTurn ts).busState = s.busState := rfl
@[simp] theorem State.beginTurn_repStart (ts : List Turn) : (s.beginTurn ts).repStart = s.repStart := rfl
@[simp] theorem State.beginTurn_lastErr (ts : List Turn) : (s.beginTurn ts).lastErr = s.lastErr := rfl
@[simp] theorem State.beginTurn_txBuf (ts : List Turn) : (s.beginTurn ts).txBuf = s.txBuf := rfl
@[simp] theorem State.beginTurn_txIndex (ts : List Turn) : (s.beginTurn ts).txIndex = s.txIndex := rfl
@[simp] theorem State.beginTurn_txLen (ts : List Turn) : (s.beginTurn ts).txLen = s.txLen := rfl
@[simp] theorem State.beginTurn_rxBuf (ts : List Turn) : (s.beginTurn ts).rxBuf = s.rxBuf := rfl
@[simp] theorem State.beginTurn_rxIndex (ts : List Turn) : (s.beginTurn ts).rxIndex = s.rxIndex := rfl
@[simp] theorem State.beginTurn_rxLen (ts : List Turn) : (s.beginTurn ts).rxLen = s.rxLen := rfl
@[simp] theorem State.beginTurn_mode (ts : List Turn) : (s.beginTurn ts).mode = s.mode := rfl
@[simp] theorem State.beginTurn_addrMatch (ts : List Turn) : (s.beginTurn ts).addrMatch = s.addrMatch := rfl
@[simp] theorem State.beginTurn_data (ts : List Turn) : (s.beginTurn ts).data = s.data := rfl
@[simp] theorem State.beginTurn_ctl (ts : List Turn) : (s.beginTurn ts).ctl = s.ctl := rfl
@[simp] theorem State.beginTurn_cmd (ts : List Turn) : (s.beginTurn ts).cmd = none := rfl
@[simp] theorem State.beginTurn_pending (ts : List Turn) : (s.beginTurn ts).pending = s.pending := rfl
@[simp] theorem State.beginTurn_openReq (ts : List Turn) : (s.beginTurn ts).openReq = s.openReq := rfl
@[simp] theorem State.beginTurn_trace (ts : List Turn) : (s.beginTurn ts).trace = s.trace := rfl
@[simp] theorem State.beginTurn_replies (ts : List Turn) : (s.beginTurn ts).replies = s.replies := rfl
@[simp] theorem State.beginTurn_requests (ts : List Turn) : (s.beginTurn ts).requests = s.requests := rfl
@[simp] theorem State.beginTurn_turns (ts : List Turn) : (s.beginTurn ts).turns = ts := rfl
@[simp] theorem State.beginTurn_resets (ts : List Turn) : (s.beginTurn ts).resets = s.resets := rfl

/-! ### deliver -/

@[simp] theorem State.deliver_params (d : Byte) : (s.deliver d).params = s.params := rfl
@[simp] theorem State.deliver_busState (d : Byte) : (s.deliver d).busState = s.busState := rfl
@[simp] theorem State.deliver_repStart (d : Byte) : (s.deliver d).repStart = s.repStart := rfl
@[simp] theorem State.deliver_lastErr (d : Byte) : (s.deliver d).lastErr = s.lastErr := rfl
@[simp] theorem State.deliver_txBuf (d : Byte) : (s.deliver d).txBuf = s.txBuf := rfl
@[simp] theorem State.deliver_txIndex (d : Byte) : (s.deliver d).txIndex = s.txIndex := rfl
@[simp] theorem State.deliver_txLen (d : Byte) : (s.deliver d).txLen = s.txLen := rfl
@[simp] theorem State.deliver_rxBuf (d : Byte) : (s.deliver d).rxBuf = s.rxBuf := rfl
@[simp] theorem State.deliver_rxIndex (d : Byte) : (s.deliver d).rxIndex = s.rxIndex := rfl
@[simp] theorem State.deliver_rxLen (d : Byte) : (s.deliver d).rxLen = s.rxLen := rfl
@[simp] theorem State.deliver_mode (d : Byte) : (s.deliver d).mode = s.mode := rfl
@[simp] theorem State.deliver_addrMatch (d : Byte) : (s.deliver d).addrMatch = s.addrMatch := rfl
@[simp] theorem State.deliver_data (d : Byte) : (s.deliver d).data = d := rfl
@[simp] theorem State.deliver_ctl (d : Byte) : (s.deliver d).ctl = s.ctl := rfl
@[simp] theorem State.deliver_cmd (d : Byte) : (s.deliver d).cmd = s.cmd := rfl
@[simp] theorem State.deliver_pending (d : Byte) : (s.deliver d).pending = true := rfl
@[simp] theorem State.deliver_openReq (d : Byte) : (s.deliver d).openReq = s.openReq := rfl
@[simp] theorem State.deliver_trace (d : Byte) : (s.deliver d).trace = s.trace := rfl
@[simp] theorem State.deliver_replies (d : Byte) : (s.deliver d).replies = s.replies := rfl
@[simp] theorem State.deliver_requests (d : Byte) : (s.deliver d).requests = s.requests := rfl
@[simp] theorem State.deliver_turns (d : Byte) : (s.deliver d).turns = s.turns := rfl
@[simp] theorem State.deliver_resets (d : Byte) : (s.deliver d).resets = s.resets := rfl

end Sys2Proof.Machine
end

