-- ==== Sys2Proof/Laws/Ops.lean ====
section
/-!
SUPPORT. One spec lemma per shared operation: what it answers, in the terms of Safety.lean, so that proofs cite it
instead of unfolding the operation.
-/

namespace Sys2Proof.Machine

open Sys2Proof.Safety

@[simp] theorem andThen_next (s : State) (f : State → Res) : andThen (.next s) f = f s := rfl
@[simp] theorem andThen_fault (e : Fault) (f : State → Res) : andThen (.fault e) f = .fault e := rfl
@[simp] theorem andThen_refused (e : Refusal) (f : State → Res) : andThen (.refused e) f = .refused e := rfl

/-- `andThen` answers a next state exactly when both parts do. -/
theorem andThen_eq_next {r : Res} {f : State → Res} {t : State} :
    andThen r f = .next t ↔ ∃ s, r = .next s ∧ f s = .next t := by
  cases r <;> simp [andThen]

/-- Issuing a command drives it with nothing else put out (R80). -/
theorem State.issue_eq_driven (s : State) (c : Command) : s.issue c = driven s [] c := by
  simp [State.issue, driven]

/-- A DATA write and the command that uses it (R51). -/
theorem State.writeData_issue_eq_driven (s : State) (b : Byte) (c : Command) :
    (s.writeData b).issue c = driven { s with data := b } [.data b] c := by
  simp [State.issue, State.writeData, driven]

/-- TxPush sends the byte at the cursor, or faults outside the buffer (R90, R45). -/
theorem State.txPush_eq (s : State) :
    s.txPush = if s.txIndex < s.params.txSize then .next (pushed s .transmitData) else .fault .txOutOfRange := by
  unfold State.txPush State.memRead
  by_cases h : s.txIndex < s.params.txSize
  · simp [State.spaceSize, h, pushed, driven, State.issue, State.writeData, State.setTxIndex]
  · simp [State.spaceSize, h]

/-- SlavePush sends the next byte or 0x00, or faults outside the buffer (R92, R45). -/
theorem State.slavePush_eq (s : State) :
    s.slavePush =
      if s.txIndex < s.txLen ∧ ¬ s.txIndex < s.params.txSize then .fault .txOutOfRange
      else .next (slavePushed s) := by
  unfold State.slavePush State.memRead slavePushed
  by_cases h : s.txIndex < s.txLen <;> by_cases h' : s.txIndex < s.params.txSize <;>
    simp [State.spaceSize, State.moreToSend, h, h', pushed, driven, State.issue, State.writeData, State.setTxIndex]

/-- RxAppend stores or discards DATA, or faults outside the buffer (R94, R45). -/
theorem State.rxAppend_eq (s : State) :
    s.rxAppend s.data =
      if s.rxIndex < s.rxLen ∧ ¬ s.rxIndex < s.params.rxCap then .fault .rxOutOfRange
      else .next (received s) := by
  unfold State.rxAppend State.rxWrite received
  by_cases h : s.rxIndex < s.rxLen <;> by_cases h' : s.rxIndex < s.params.rxCap <;>
    simp [State.spaceSize, State.roomToReceive, State.setRxIndex, h, h']

/-- RxAckChoice issues the tie-break's command (R95). -/
theorem State.rxAckChoice_eq (s : State) : s.rxAckChoice = driven s [] (ackChoice s) := by
  unfold State.rxAckChoice ackChoice State.moreThanOneLeft
  by_cases h : s.rxIndex + 1 < s.rxLen <;> simp [h, State.issue_eq_driven]

/-- The completion path (R101). -/
theorem State.complete_eq (s : State) : s.complete = completed s := by
  unfold State.complete completed
  by_cases h : s.repStart = true
  · simp only [h, if_true, State.issue_eq_driven]
  · rw [if_neg h, if_neg h, State.issue_eq_driven]; rfl

/-- The shared tail of the master-transmit rules, or a fault outside the buffer (R101, R45). -/
theorem State.txNextOrComplete_eq (s : State) :
    s.txNextOrComplete =
      if s.txIndex < s.txLen ∧ ¬ s.txIndex < s.params.txSize then .fault .txOutOfRange else .next (tail s) := by
  unfold State.txNextOrComplete State.moreToSend tail
  by_cases h : s.txIndex < s.txLen <;> by_cases h' : s.txIndex < s.params.txSize <;>
    simp [h, h', State.txPush_eq, State.complete_eq]

/-- With the cursor inside the buffer the shared tail completes (R101). -/
theorem State.txNextOrComplete_next {s : State} (h : txCursorInside s) : s.txNextOrComplete = .next (tail s) := by
  rw [State.txNextOrComplete_eq, if_neg (fun hc => hc.2 (h hc.1))]

/-- What the shared tail answers when it answers a next state (R101, R45). -/
theorem State.txNextOrComplete_inv {s t : State} (h : s.txNextOrComplete = .next t) : t = tail s := by
  rw [State.txNextOrComplete_eq] at h
  split at h
  · exact absurd h (by simp)
  · exact (Host.Outcome.next.inj h).symm

/-- With the cursor inside the buffer the slave's push completes (R92). -/
theorem State.slavePush_next {s : State} (h : txCursorInside s) : s.slavePush = .next (slavePushed s) := by
  rw [State.slavePush_eq, if_neg (fun hc => hc.2 (h hc.1))]

/-- What the slave's push answers when it answers a next state (R92, R45). -/
theorem State.slavePush_inv {s t : State} (h : s.slavePush = .next t) : t = slavePushed s := by
  rw [State.slavePush_eq] at h
  split at h
  · exact absurd h (by simp)
  · exact (Host.Outcome.next.inj h).symm

/-- With the cursor inside the buffer the received byte is stored or discarded (R94). -/
theorem State.rxAppend_next {s : State} (h : rxCursorInside s) : s.rxAppend s.data = .next (received s) := by
  rw [State.rxAppend_eq, if_neg (fun hc => hc.2 (h hc.1))]

/-- What the append answers when it answers a next state (R94, R45). -/
theorem State.rxAppend_inv {s t : State} (h : s.rxAppend s.data = .next t) : t = received s ∧ rxCursorInside s := by
  rw [State.rxAppend_eq] at h
  split at h
  · exact absurd h (by simp)
  · rename_i hc; exact ⟨(Host.Outcome.next.inj h).symm, fun hr => Classical.not_not.mp (fun hn => hc ⟨hr, hn⟩)⟩

/-- The fail-stop group (R110). -/
theorem State.failStop_eq (s : State) (k : Byte) :
    s.failStop k = driven { s with lastErr := some k, busState := .available } [] .stop := by
  simp [State.failStop, State.issue_eq_driven, State.setBus, State.recordError]

/-- The catch-all (R128). -/
theorem State.catchAll_eq (s : State) (k : Byte) :
    s.catchAll k = driven { s with lastErr := some k, busState := .available } [] .enableSlaveReset := by
  simp [State.catchAll, State.issue_eq_driven, State.setBus, State.recordError]

/-- Back to listening (R123, R126). -/
theorem State.release_eq (s : State) :
    s.release = driven { s with busState := .available } [] .enableSlaveReset := by
  simp [State.release, State.issue_eq_driven, State.setBus]

/-- Address match as receiver (R124). -/
theorem State.slaveReceive_eq (s : State) :
    s.slaveReceive =
      driven { s with rxIndex := 0, rxLen := s.params.rxCap, busState := .slaveReceiving } [] .transmitAck := by
  simp [State.slaveReceive, State.issue_eq_driven, State.setBus, State.rxRewind, State.setRxIndex, State.setRxLen]

/-- A slave data byte, or a fault outside the buffer (R125, R45). -/
theorem State.slaveStore_eq (s : State) :
    s.slaveStore =
      if s.rxIndex < s.rxLen ∧ ¬ s.rxIndex < s.params.rxCap then .fault .rxOutOfRange
      else .next (driven (received s) [] .transmitAck) := by
  unfold State.slaveStore
  rw [State.rxAppend_eq]
  split <;> simp [State.issue_eq_driven]

/-- What a slave data byte's rule answers when it answers a next state (R125, R45). -/
theorem State.slaveStore_inv {s t : State} (h : s.slaveStore = .next t) :
    t = driven (received s) [] .transmitAck ∧ rxCursorInside s := by
  obtain ⟨u, hu, ht⟩ := andThen_eq_next.mp h
  obtain ⟨rfl, hi⟩ := State.rxAppend_inv hu
  exact ⟨by rw [← Host.Outcome.next.inj ht, State.issue_eq_driven], hi⟩

/-- With the cursor inside the buffer a slave data byte's rule completes (R125). -/
theorem State.slaveStore_next {s : State} (h : rxCursorInside s) :
    s.slaveStore = .next (driven (received s) [] .transmitAck) := by
  rw [State.slaveStore, State.rxAppend_next h, andThen_next, State.issue_eq_driven]

/-- The guard: effect when ready, else held (R135). -/
theorem State.whenReady_eq (s : State) (i : Instr) (f : State → Res) :
    s.whenReady i f =
      if s.busState = .available ∨ s.busState = .repeatedStartSent then f s
      else .next { s with openReq := some (.held i) } := by
  unfold State.whenReady State.ready State.hold State.setOpen
  by_cases h : s.busState = .available ∨ s.busState = .repeatedStartSent <;> simp [h]

/-- Byte 0 of a staged transfer is its address byte (R93). -/
theorem State.stageTx_txAt_zero (s : State) (b0 : Byte) (p : List Byte) (n : Nat) : (s.stageTx b0 p n).txAt 0 = b0 := by
  simp [State.txAt, Memory.read?_writeBytes, stagedBytes]

/-- Initiate (R136), for a payload of `n` bytes. -/
theorem State.initiate_eq (s : State) (b0 : Byte) (p : List Byte) (n : Nat) (rs : Bool) :
    s.initiate b0 p n rs =
      if s.busState = .repeatedStartSent then
        driven { s with
          txBuf := Memory.writeBytes s.txBuf 0 (stagedBytes b0 p n), txLen := n + 1, repStart := rs,
          busState := .initializing, txIndex := 1, data := b0 } [.data b0] .transmitData
      else
        driven { s with
          txBuf := Memory.writeBytes s.txBuf 0 (stagedBytes b0 p n), txLen := n + 1, repStart := rs,
          busState := .initializing, txIndex := 0 } [] .start := by
  have h0 : ((s.stageTx b0 p n).setRepStart rs).txAt 0 = b0 := State.stageTx_txAt_zero s b0 p n
  unfold State.initiate
  by_cases h : s.busState = .repeatedStartSent
  · rw [if_pos h]; simp only [h, if_true, h0, State.issue_eq_driven]
    simp [State.writeData, State.setBus, State.stageTx, State.setTxIndex, State.setRepStart, driven]
  · rw [if_neg h]; simp only [h, if_false, State.issue_eq_driven]; rfl

/-- Initiate with exactly its payload (R136), in the terms of Safety.lean. -/
theorem State.initiate_eq_initiated (s : State) (b0 : Byte) {p : List Byte} {n : Nat} (h : p.length = n) (rs : Bool) :
    s.initiate b0 p n rs = initiated s (Memory.writeBytes s.txBuf 0 (b0 :: p)) b0 p rs := by
  subst h
  rw [State.initiate_eq]
  simp only [initiated, stagedBytes, List.take_length]

/-- Initiate looks at the first `n` payload bytes only (R93). -/
theorem State.initiate_take (s : State) (b0 : Byte) (p : List Byte) (n : Nat) (rs : Bool) :
    s.initiate b0 p n rs = s.initiate b0 (p.take n) n rs := by
  simp only [State.initiate_eq, stagedBytes, List.take_take, Nat.min_self]

/-- Staging writes the bytes and nothing else (R93). -/
theorem staged_writeBytes (m : Memory) (bs : List Byte) : Staged m (Memory.writeBytes m 0 bs) bs := by
  constructor
  · intro j h; simp [Memory.read?_writeBytes, h]
  · intro j h; simp [Memory.read?_writeBytes, Nat.not_lt.mpr h]

end Sys2Proof.Machine
end

