-- ==== Sys2Proof/Laws/Exec.lean ====
section
/-!
SUPPORT. What an instruction's run and a step can answer, said once: for every event the state it leaves as a function,
for every request the cases of its rule, and for a step one case per kind of turn.
-/

namespace Sys2Proof.Machine

open Sys2Proof.Safety

/-- The state an event leaves when it completes (42_bsm_master R111, 43_bsm_slave R129); for any other row, the state
itself. -/
def eventAfter (i : Instr) (s : State) : State :=
  match i with
  | .evStartSent => tail (s.setTxIndex 0)
  | .evRepStartSent => (s.setTxIndex 0).setBus .repeatedStartSent
  | .evMtSlaAck => tail (s.setBus .masterTransmitting)
  | .evMtDataAck => tail s
  | .evMtDataNack => completed (s.recordError (s.params.status.code .mtDataNack))
  | .evMtSlaNack => driven ((s.recordError (s.params.status.code .mtSlaNack)).setBus .available) [] .stop
  | .evMrSlaNack => driven ((s.recordError (s.params.status.code .mrSlaNack)).setBus .available) [] .stop
  | .evArbLost => driven ((s.recordError (s.params.status.code .arbLost)).setBus .available) [] .stop
  | .evMrSlaAck => driven (s.setBus .masterReceiving) [] (ackChoice s)
  | .evMrDataAck => driven (received s) [] (ackChoice (received s))
  | .evMrDataNack => completed (received s)
  | .evSrSlaAck | .evSrGcallAck =>
    driven (((s.setRxIndex 0).setRxLen s.params.rxCap).setBus .slaveReceiving) [] .transmitAck
  | .evSrDataAck | .evSrGcallDataAck => driven (received s) [] .transmitAck
  | .evSrStop | .evStDataNack => driven (s.setBus .available) [] .enableSlaveReset
  | .evStSlaAck => slavePushed ((s.setTxIndex 0).setBus .slaveTransmitting)
  | .evStDataAck => slavePushed s
  | .evUnrecognized code => driven ((s.recordError code).setBus .available) [] .enableSlaveReset
  | _ => s

/-- The cursor condition under which an event completes (R45); no condition for most. -/
def eventInside (i : Instr) (s : State) : Prop :=
  match i with
  | .evMtSlaAck | .evMtDataAck | .evStDataAck => txCursorInside s
  | .evMrDataAck | .evMrDataNack | .evSrDataAck | .evSrGcallDataAck => rxCursorInside s
  | _ => True

/-- An event whose cursor is inside its buffer completes, and leaves `eventAfter`. -/
theorem exec_event_next {i : Instr} {s : State} (hi : isEvent i = true) (h : eventInside i s) :
    exec i s = .next (eventAfter i s) := by
  have h0 : ∀ b, txCursorInside (s.setTxIndex 0 |>.setBus b) := fun b _ => by simp [Params.txSize]
  have h1 : txCursorInside (s.setTxIndex 0) := fun _ => by simp [Params.txSize]
  cases i <;> simp only [isEvent, Bool.false_eq_true] at hi
  case evStartSent => exact State.txNextOrComplete_next h1
  case evRepStartSent => rfl
  case evMtSlaAck => exact State.txNextOrComplete_next (s := s.setBus .masterTransmitting) h
  case evMtSlaNack => exact congrArg _ (State.failStop_eq s _)
  case evMtDataAck => exact State.txNextOrComplete_next h
  case evMtDataNack => exact congrArg _ (State.complete_eq _)
  case evArbLost => exact congrArg _ (State.failStop_eq s _)
  case evMrSlaAck => exact congrArg _ (State.rxAckChoice_eq _)
  case evMrSlaNack => exact congrArg _ (State.failStop_eq s _)
  case evMrDataAck => simp [exec, execEvMrDataAck, State.rxAppend_next h, State.rxAckChoice_eq, eventAfter]
  case evMrDataNack => simp [exec, execEvMrDataNack, State.rxAppend_next h, State.complete_eq, eventAfter]
  case evSrSlaAck => exact congrArg _ (State.slaveReceive_eq s)
  case evSrGcallAck => exact congrArg _ (State.slaveReceive_eq s)
  case evSrDataAck => exact State.slaveStore_next h
  case evSrGcallDataAck => exact State.slaveStore_next h
  case evSrStop => exact congrArg _ (State.release_eq s)
  case evStSlaAck => exact State.slavePush_next (h0 _)
  case evStDataAck => exact State.slavePush_next h
  case evStDataNack => exact congrArg _ (State.release_eq s)
  case evUnrecognized => exact congrArg _ (State.catchAll_eq s _)

/-- The fault of an event whose cursor is outside its buffer. -/
def eventFault (i : Instr) : Fault :=
  match i with
  | .evMrDataAck | .evMrDataNack | .evSrDataAck | .evSrGcallDataAck => .rxOutOfRange
  | _ => .txOutOfRange

/-- An event whose cursor is outside its buffer faults (R45, log 10). -/
theorem exec_event_fault {i : Instr} {s : State} (hi : isEvent i = true) (h : ¬ eventInside i s) :
    exec i s = .fault (eventFault i) := by
  have tx : ∀ u : State, ¬ txCursorInside u → u.txIndex < u.txLen ∧ ¬ u.txIndex < u.params.txSize :=
    fun u hu => ⟨Classical.byContradiction fun hc => hu fun hl => absurd hl hc, fun hc => hu fun _ => hc⟩
  have rx : ¬ rxCursorInside s → s.rxIndex < s.rxLen ∧ ¬ s.rxIndex < s.params.rxCap :=
    fun hu => ⟨Classical.byContradiction fun hc => hu fun hl => absurd hl hc, fun hc => hu fun _ => hc⟩
  cases i <;> simp only [isEvent, Bool.false_eq_true] at hi <;> simp only [eventInside, not_true_eq_false] at h
  case evMtSlaAck =>
    simp only [exec, execEvMtSlaAck, State.txNextOrComplete_eq]; exact if_pos (tx (s.setBus .masterTransmitting) h)
  case evMtDataAck => simp only [exec, execEvMtDataAck, State.txNextOrComplete_eq]; exact if_pos (tx s h)
  case evStDataAck => simp only [exec, execEvStDataAck, State.slavePush_eq]; exact if_pos (tx s h)
  case evMrDataAck => simp only [exec, execEvMrDataAck, State.rxAppend_eq]; rw [if_pos (rx h)]; rfl
  case evMrDataNack => simp only [exec, execEvMrDataNack, State.rxAppend_eq]; rw [if_pos (rx h)]; rfl
  case evSrDataAck => simp only [exec, execEvSrDataAck, State.slaveStore_eq]; exact if_pos (rx h)
  case evSrGcallDataAck => simp only [exec, execEvSrGcallDataAck, State.slaveStore_eq]; exact if_pos (rx h)

/-- What an event leaves when it answers a next state. -/
theorem exec_event_inv {i : Instr} {s t : State} (hi : isEvent i = true) (h : exec i s = .next t) :
    t = eventAfter i s ∧ eventInside i s := by
  by_cases hc : eventInside i s
  · rw [exec_event_next hi hc] at h; exact ⟨(Host.Outcome.next.inj h).symm, hc⟩
  · rw [exec_event_fault hi hc] at h; exact absurd h (by simp)

/-- WRITE's cases (R138). -/
theorem exec_write_inv {rs : Bool} {a : BitVec 7} {n : Nat} {p : List Byte} {s t : State}
    (h : exec (.write rs a n p) s = .next t) :
    (s.params.txCap < n ∧ t = s.reply (.ok false)) ∨
    (n ≤ s.params.txCap ∧ ¬ readyNow s ∧ t = s.hold (.write rs a n p)) ∨
    (n ≤ s.params.txCap ∧ readyNow s ∧ t = (s.initiate (slaW a) p n rs).reply (.ok true)) := by
  simp only [exec, execWrite, State.oversizedTx, State.whenReady_eq, decide_eq_true_eq] at h
  split at h
  · exact .inl ⟨‹_›, (Host.Outcome.next.inj h).symm⟩
  · split at h
    · exact .inr (.inr ⟨by omega, ‹_›, (Host.Outcome.next.inj h).symm⟩)
    · exact .inr (.inl ⟨by omega, ‹_›, (Host.Outcome.next.inj h).symm⟩)

/-- WRITE_TEXT's cases (R139). -/
theorem exec_writeText_inv {rs : Bool} {a : BitVec 7} {n : Nat} {p : List Byte} {s t : State}
    (h : exec (.writeText rs a n p) s = .next t) :
    (¬ readyNow s ∧ t = s.hold (.writeText rs a n p)) ∨
    (readyNow s ∧ t = s.initiate (slaW a) p (min n s.params.txCap) rs) := by
  simp only [exec, execWriteText, State.clampTx, State.whenReady_eq] at h
  split at h
  · exact .inr ⟨‹_›, (Host.Outcome.next.inj h).symm⟩
  · exact .inl ⟨‹_›, (Host.Outcome.next.inj h).symm⟩

/-- SLAVE_STAGE's cases (R140). -/
theorem exec_slaveStage_inv {n : Nat} {p : List Byte} {s t : State} (h : exec (.slaveStage n p) s = .next t) :
    (¬ readyNow s ∧ t = s.hold (.slaveStage n p)) ∨
    (readyNow s ∧ t = s.stageSlaveTx p (min n s.params.txCap)) := by
  simp only [exec, execSlaveStage, State.clampTx, State.whenReady_eq] at h
  split at h
  · exact .inr ⟨‹_›, (Host.Outcome.next.inj h).symm⟩
  · exact .inl ⟨‹_›, (Host.Outcome.next.inj h).symm⟩

/-- READ's cases in phase 1 (R141). -/
theorem exec_read_inv {rs : Bool} {a : BitVec 7} {n : Nat} {s t : State} (h : exec (.read rs a n) s = .next t) :
    (s.params.rxCap < n ∧ t = s.reply (.ok false)) ∨
    (n ≤ s.params.rxCap ∧ ¬ readyNow s ∧ t = s.hold (.read rs a n)) ∨
    (n ≤ s.params.rxCap ∧ readyNow s ∧
      t = (((s.stageRx n).initiate (slaR a) [] 0 rs).reply (.ok true)).setOpen (some (.reading n))) := by
  simp only [exec, execRead, State.oversizedRx, State.whenReady_eq, decide_eq_true_eq] at h
  split at h
  · exact .inl ⟨‹_›, (Host.Outcome.next.inj h).symm⟩
  · split at h
    · exact .inr (.inr ⟨by omega, ‹_›, (Host.Outcome.next.inj h).symm⟩)
    · exact .inr (.inl ⟨by omega, ‹_›, (Host.Outcome.next.inj h).symm⟩)

/-- SET_MODE answers a next state only while Available (R150, R151). -/
theorem exec_setMode_inv {m : Mode} {a : BitVec 7} {s t : State} (h : exec (.setMode m a) s = .next t) :
    s.busState = .available ∧ t = s.configure m a := by
  simp only [exec, execSetMode, State.available, decide_eq_true_eq] at h
  split at h
  · exact ⟨‹_›, (Host.Outcome.next.inj h).symm⟩
  · exact absurd h (by simp)

/-- READ's completion (R142). -/
theorem readCompletion_eq (n : Nat) (s : State) :
    readCompletion n s =
      if s.rxIndex = n then
        if n ≤ s.params.rxCap then .next ((s.reply (.bytes ((List.range n).map s.rxAt))).setOpen none)
        else .fault .rxOutOfRange
      else .next s := by
  unfold readCompletion State.readComplete State.copyOut
  by_cases h : s.rxIndex = n <;> by_cases h' : n ≤ s.params.rxCap <;> simp [h, h']

/-- What READ's completion answers when it answers a next state (R142). -/
theorem readCompletion_inv {n : Nat} {s t : State} (h : readCompletion n s = .next t) :
    (s.rxIndex ≠ n ∧ t = s) ∨
    (s.rxIndex = n ∧ n ≤ s.params.rxCap ∧ t = (s.reply (.bytes ((List.range n).map s.rxAt))).setOpen none) := by
  rw [readCompletion_eq] at h
  split at h
  · split at h
    · exact .inr ⟨‹_›, ‹_›, (Host.Outcome.next.inj h).symm⟩
    · exact absurd h (by simp)
  · exact .inl ⟨‹_›, (Host.Outcome.next.inj h).symm⟩

/-- What Initiate leaves in every register it does not depend on a case for, and what it puts out (R136). -/
theorem State.initiate_fields (s : State) (b0 : Byte) (p : List Byte) (n : Nat) (rs : Bool) :
    (s.initiate b0 p n rs).params = s.params ∧ (s.initiate b0 p n rs).busState = .initializing ∧
    (s.initiate b0 p n rs).repStart = rs ∧ (s.initiate b0 p n rs).lastErr = s.lastErr ∧
    (s.initiate b0 p n rs).txBuf = Memory.writeBytes s.txBuf 0 (stagedBytes b0 p n) ∧
    (s.initiate b0 p n rs).txLen = n + 1 ∧ (s.initiate b0 p n rs).txIndex ≤ 1 ∧
    (s.initiate b0 p n rs).rxBuf = s.rxBuf ∧ (s.initiate b0 p n rs).rxIndex = s.rxIndex ∧
    (s.initiate b0 p n rs).rxLen = s.rxLen ∧ (s.initiate b0 p n rs).mode = s.mode ∧
    (s.initiate b0 p n rs).addrMatch = s.addrMatch ∧ (s.initiate b0 p n rs).openReq = s.openReq ∧
    (s.initiate b0 p n rs).requests = s.requests ∧ (s.initiate b0 p n rs).turns = s.turns ∧
    (s.initiate b0 p n rs).resets = s.resets ∧ (s.initiate b0 p n rs).replies = s.replies ∧
    (s.busState ≠ .repeatedStartSent → (s.initiate b0 p n rs).data = s.data) := by
  rw [State.initiate_eq]
  split
  · exact ⟨rfl, rfl, rfl, rfl, rfl, rfl, by simp [driven], rfl, rfl, rfl, rfl, rfl, rfl, rfl, rfl, rfl, rfl,
      fun h => absurd ‹_› h⟩
  · exact ⟨rfl, rfl, rfl, rfl, rfl, rfl, by simp [driven], rfl, rfl, rfl, rfl, rfl, rfl, rfl, rfl, rfl, rfl, fun _ => rfl⟩

/-- What Initiate puts out (R136, R29). -/
theorem State.initiate_output (s : State) (b0 : Byte) (p : List Byte) (n : Nat) (rs : Bool) :
    ((s.initiate b0 p n rs).trace = s.trace ++ [.cmd .start] ∧
      (s.initiate b0 p n rs).cmd = some (commandCode .start)) ∨
    ((s.initiate b0 p n rs).trace = s.trace ++ [.data b0, .cmd .transmitData] ∧
      (s.initiate b0 p n rs).cmd = some (commandCode .transmitData)) := by
  rw [State.initiate_eq]
  split
  · exact .inr ⟨by simp [driven], rfl⟩
  · exact .inl ⟨by simp [driven], rfl⟩

/-- What SET_MODE leaves, in either mode (R150). -/
theorem State.configure_fields (s : State) (m : Mode) (a : BitVec 7) :
    (s.configure m a).params = s.params ∧ (s.configure m a).busState = .available ∧
    (s.configure m a).txBuf = s.txBuf ∧ (s.configure m a).rxBuf = s.rxBuf ∧
    (s.configure m a).lastErr = s.lastErr ∧ (s.configure m a).data = s.data ∧
    (s.configure m a).requests = s.requests ∧ (s.configure m a).turns = s.turns ∧
    (s.configure m a).resets = s.resets ∧ (s.configure m a).openReq = s.openReq ∧
    (s.configure m a).txIndex = 0 ∧ (s.configure m a).txLen = 0 ∧
    (s.configure m a).rxIndex = 0 ∧ (s.configure m a).rxLen = 0 := by
  cases m <;> exact ⟨rfl, rfl, rfl, rfl, rfl, rfl, rfl, rfl, rfl, rfl, rfl, rfl, rfl, rfl⟩

/-- Everything a request that answers a next state did: SET_MODE; a plain answer; held; staged; or one of the three
that initiate (R135 to R141, R150 to R153, R69). -/
theorem exec_request_cases {i : Instr} {s t : State} (hi : isRequest i = true) (h : exec i s = .next t) :
    (∃ m a, i = .setMode m a ∧ s.busState = .available ∧ t = s.configure m a) ∨
    (∃ b, t = s.reply b ∧ (∀ m a, i ≠ .setMode m a) ∧ (∀ rs a n p, i = .write rs a n p → s.params.txCap < n) ∧
      (∀ rs a n p, i ≠ .writeText rs a n p) ∧ (∀ rs a n, i = .read rs a n → s.params.rxCap < n)) ∨
    (t = s.hold i ∧ ¬ readyNow s) ∨
    (∃ n p, i = .slaveStage n p ∧ t = s.stageSlaveTx p (min n s.params.txCap)) ∨
    (∃ rs a n p, i = .write rs a n p ∧ n ≤ s.params.txCap ∧ readyNow s ∧
      t = (s.initiate (slaW a) p n rs).reply (.ok true)) ∨
    (∃ rs a n p, i = .writeText rs a n p ∧ readyNow s ∧ t = s.initiate (slaW a) p (min n s.params.txCap) rs) ∨
    (∃ rs a n, i = .read rs a n ∧ n ≤ s.params.rxCap ∧ readyNow s ∧
      t = (((s.stageRx n).initiate (slaR a) [] 0 rs).reply (.ok true)).setOpen (some (.reading n))) := by
  cases i <;> simp only [isRequest, Bool.false_eq_true] at hi
  case setMode m a => exact .inl ⟨m, a, rfl, exec_setMode_inv h⟩
  case write rs a n p =>
    rcases exec_write_inv h with ⟨h1, rfl⟩ | ⟨_, h1, rfl⟩ | ⟨h1, h2, rfl⟩
    · exact .inr (.inl ⟨_, rfl, by simp, by intro _ _ _ _ h; cases h; exact h1, by simp, by simp⟩)
    · exact .inr (.inr (.inl ⟨rfl, h1⟩))
    · exact .inr (.inr (.inr (.inr (.inl ⟨rs, a, n, p, rfl, h1, h2, rfl⟩))))
  case writeText rs a n p =>
    rcases exec_writeText_inv h with ⟨h1, rfl⟩ | ⟨h2, rfl⟩
    · exact .inr (.inr (.inl ⟨rfl, h1⟩))
    · exact .inr (.inr (.inr (.inr (.inr (.inl ⟨rs, a, n, p, rfl, h2, rfl⟩)))))
  case slaveStage n p =>
    rcases exec_slaveStage_inv h with ⟨h1, rfl⟩ | ⟨_, rfl⟩
    · exact .inr (.inr (.inl ⟨rfl, h1⟩))
    · exact .inr (.inr (.inr (.inl ⟨n, p, rfl, rfl⟩)))
  case read rs a n =>
    rcases exec_read_inv h with ⟨h1, rfl⟩ | ⟨_, h1, rfl⟩ | ⟨h1, h2, rfl⟩
    · exact .inr (.inl ⟨_, rfl, by simp, by simp, by simp, by intro _ _ _ h; cases h; exact h1⟩)
    · exact .inr (.inr (.inl ⟨rfl, h1⟩))
    · exact .inr (.inr (.inr (.inr (.inr (.inr ⟨rs, a, n, rfl, h1, h2, rfl⟩)))))
  all_goals exact .inr (.inl ⟨_, (Host.Outcome.next.inj h).symm, by simp, by simp, by simp, by simp⟩)

/-- Everything an instruction that answers a next state did: an event's rule, a request's, or one command (R172, R80). -/
theorem exec_cases {i : Instr} {s t : State} (h : exec i s = .next t) :
    (isEvent i = true ∧ eventInside i s ∧ t = eventAfter i s) ∨ isRequest i = true ∨
    (isEvent i = false ∧ isRequest i = false ∧ ∃ c, t = s.issue c) := by
  by_cases h1 : isEvent i = true
  · exact .inl ⟨h1, (exec_event_inv h1 h).2, (exec_event_inv h1 h).1⟩
  · by_cases h2 : isRequest i = true
    · exact .inr (.inl h2)
    · refine .inr (.inr ⟨by simpa using h1, by simpa using h2, ?_⟩)
      cases i <;> simp only [isEvent, isRequest, not_true_eq_false] at h1 h2 <;>
        exact ⟨_, (Host.Outcome.next.inj h).symm⟩

/-- An event's word decodes to an event (R62, R64). -/
theorem decodeEvent_isEvent (b : StatusBinding) (code : Byte) : isEvent (decodeEvent b code) = true := by
  unfold decodeEvent
  split
  · rename_i e _; cases e <;> rfl
  · rfl

/-- A command's word decodes to no request (R65). -/
theorem decodeCommand_not_request {p : Params} {code : BitVec 3} {i : Instr} (h : decode p (.cmd code) = .ok i) :
    isRequest i = false := by
  simp only [decode, decodeCommand] at h
  split at h <;> cases h <;> rfl

/-- The one instruction that is refused, and when (R151). -/
theorem exec_refused_inv {i : Instr} {s : State} {r : Refusal} (h : exec i s = .refused r) :
    ∃ m a, i = .setMode m a ∧ s.busState ≠ .available ∧ r = .setModeOutsideAvailable := by
  by_cases hi : isEvent i = true
  · by_cases hc : eventInside i s
    · rw [exec_event_next hi hc] at h; cases h
    · rw [exec_event_fault hi hc] at h; cases h
  · cases i <;> simp only [isEvent, not_true_eq_false] at hi
    case setMode m a =>
      simp only [exec, execSetMode, State.available, decide_eq_true_eq] at h
      split at h
      · cases h
      · cases h; exact ⟨m, a, rfl, ‹_›, rfl⟩
    case write => simp only [exec, execWrite, State.whenReady] at h; (repeat' split at h) <;> cases h
    case writeText => simp only [exec, execWriteText, State.whenReady] at h; split at h <;> cases h
    case slaveStage => simp only [exec, execSlaveStage, State.whenReady] at h; split at h <;> cases h
    case read => simp only [exec, execRead, State.whenReady] at h; (repeat' split at h) <;> cases h
    all_goals cases h

/-- What a step runs, one case per kind of turn (R52). The answer `r` is any of the three outcomes. -/
theorem step_cases (s : State) (r : Res) (h : step s = r) :
    (s.turns = [] ∧ r = .next (s.beginTurn [])) ∨
    (∃ code din ts, s.turns = .event code din :: ts ∧
      exec (decodeEvent s.params.status code) ((s.beginTurn ts).deliver din) = r) ∨
    (∃ code ts, s.turns = .issue code :: ts ∧
      ((∃ i, decode s.params (.cmd code) = .ok i ∧ exec i (s.beginTurn ts) = r) ∨
       (∃ e, decode s.params (.cmd code) = .error e ∧ r = .refused (.noSuchWord e)))) ∨
    (∃ ts, s.turns = .host :: ts ∧
      ((∃ i, s.openReq = some (.held i) ∧ exec i ((s.beginTurn ts).setOpen none) = r) ∨
       (∃ n, s.openReq = some (.reading n) ∧ readCompletion n (s.beginTurn ts) = r) ∨
       (s.openReq = none ∧ s.requests = [] ∧ r = .next (s.beginTurn ts)) ∨
       (∃ w ws, s.openReq = none ∧ s.requests = w :: ws ∧
         ((∃ i, decode s.params (.host w) = .ok i ∧ exec i { s.beginTurn ts with requests := ws } = r) ∨
          (∃ e, decode s.params (.host w) = .error e ∧ r = .refused (.noSuchWord e)))))) ∨
    (∃ ts, s.turns = .rst :: ts ∧ r = .next (s.beginTurn ts).assertReset) := by
  subst h
  unfold step fetch
  cases hT : s.turns with
  | nil => exact .inl ⟨rfl, rfl⟩
  | cons x ts =>
    cases x with
    | event code din => exact .inr (.inl ⟨code, din, ts, rfl, rfl⟩)
    | issue code =>
      refine .inr (.inr (.inl ⟨code, ts, rfl, ?_⟩))
      simp only [fetchWord, State.beginTurn_params]
      cases hd : decode s.params (.cmd code) with
      | ok i => exact .inl ⟨i, rfl, rfl⟩
      | error e => exact .inr ⟨e, rfl, rfl⟩
    | host =>
      refine .inr (.inr (.inr (.inl ⟨ts, rfl, ?_⟩)))
      simp only [fetchHost, State.beginTurn_openReq, State.beginTurn_requests]
      cases hO : s.openReq with
      | some q =>
        cases q with
        | held i => exact .inl ⟨i, rfl, rfl⟩
        | reading n => exact .inr (.inl ⟨n, rfl, rfl⟩)
      | none =>
        cases hR : s.requests with
        | nil => exact .inr (.inr (.inl ⟨rfl, rfl, rfl⟩))
        | cons w ws =>
          refine .inr (.inr (.inr ⟨w, ws, rfl, rfl, ?_⟩))
          simp only [fetchWord, State.beginTurn_params]
          cases hd : decode s.params (.host w) with
          | ok i => exact .inl ⟨i, rfl, rfl⟩
          | error e => exact .inr ⟨e, rfl, rfl⟩
    | rst => exact .inr (.inr (.inr (.inr ⟨ts, rfl, rfl⟩)))

end Sys2Proof.Machine
end

