-- ==== Sys2Proof/Laws/PerInstr.lean ====
section
/-!
SUPPORT. Per instruction: the word the encoder gives it has the fixed bits of its row of spec/opcode_table.json.
-/

namespace Sys2Proof.Laws.Row

/-- The table's three spaces. -/
inductive PortSpace where
  | ev | cmd | host
  deriving DecidableEq, Repr

/-- A word's space and the bits a row of that space fixes: EV bits 7..0, CMD bits 2..0, HOST bits 15..13. -/
def rowBits : PortWord → PortSpace × Nat
  | .ev code => (.ev, code.toNat)
  | .cmd code => (.cmd, code.toNat)
  | .host w => (.host, (headerOp w.header).toNat)

/-- The space and fixed value of each instruction's row; EV_UNRECOGNIZED's row fixes no bit, so its value is its
operand's. -/
def tableRow : Instr → PortSpace × Nat
  | .evStartSent => (.ev, 0x08)
  | .evRepStartSent => (.ev, 0x10)
  | .evMtSlaAck => (.ev, 0x18)
  | .evMtSlaNack => (.ev, 0x20)
  | .evMtDataAck => (.ev, 0x28)
  | .evMtDataNack => (.ev, 0x30)
  | .evArbLost => (.ev, 0x38)
  | .evMrSlaAck => (.ev, 0x40)
  | .evMrSlaNack => (.ev, 0x48)
  | .evMrDataAck => (.ev, 0x50)
  | .evMrDataNack => (.ev, 0x58)
  | .evSrSlaAck => (.ev, 0x60)
  | .evSrGcallAck => (.ev, 0x70)
  | .evSrDataAck => (.ev, 0x80)
  | .evSrGcallDataAck => (.ev, 0x90)
  | .evSrStop => (.ev, 0xA0)
  | .evStSlaAck => (.ev, 0xA8)
  | .evStDataAck => (.ev, 0xB8)
  | .evStDataNack => (.ev, 0xC0)
  | .evUnrecognized code => (.ev, code.toNat)
  | .start => (.cmd, 0)
  | .stop => (.cmd, 1)
  | .transmitData => (.cmd, 2)
  | .transmitAck => (.cmd, 3)
  | .transmitNack => (.cmd, 4)
  | .enableSlaveReset => (.cmd, 5)
  | .setMode _ _ => (.host, 0)
  | .write _ _ _ _ => (.host, 1)
  | .writeText _ _ _ _ => (.host, 2)
  | .slaveStage _ _ => (.host, 3)
  | .read _ _ _ => (.host, 4)
  | .isReady => (.host, 5)
  | .isAvailable => (.host, 6)
  | .hostReserved => (.host, 7)

/-- The encoded word of an instruction is in its row of the table. -/
def Statement (i : Instr) : Prop := rowBits (encode defaultParams i) = tableRow i

theorem evStartSent : Statement .evStartSent := rfl
theorem evRepStartSent : Statement .evRepStartSent := rfl
theorem evMtSlaAck : Statement .evMtSlaAck := rfl
theorem evMtSlaNack : Statement .evMtSlaNack := rfl
theorem evMtDataAck : Statement .evMtDataAck := rfl
theorem evMtDataNack : Statement .evMtDataNack := rfl
theorem evArbLost : Statement .evArbLost := rfl
theorem evMrSlaAck : Statement .evMrSlaAck := rfl
theorem evMrSlaNack : Statement .evMrSlaNack := rfl
theorem evMrDataAck : Statement .evMrDataAck := rfl
theorem evMrDataNack : Statement .evMrDataNack := rfl
theorem evSrSlaAck : Statement .evSrSlaAck := rfl
theorem evSrGcallAck : Statement .evSrGcallAck := rfl
theorem evSrDataAck : Statement .evSrDataAck := rfl
theorem evSrGcallDataAck : Statement .evSrGcallDataAck := rfl
theorem evSrStop : Statement .evSrStop := rfl
theorem evStSlaAck : Statement .evStSlaAck := rfl
theorem evStDataAck : Statement .evStDataAck := rfl
theorem evStDataNack : Statement .evStDataNack := rfl
theorem evUnrecognized (code : Byte) : Statement (.evUnrecognized code) := rfl
theorem start : Statement .start := rfl
theorem stop : Statement .stop := rfl
theorem transmitData : Statement .transmitData := rfl
theorem transmitAck : Statement .transmitAck := rfl
theorem transmitNack : Statement .transmitNack := rfl
theorem enableSlaveReset : Statement .enableSlaveReset := rfl
theorem setMode (m : Mode) (a : BitVec 7) : Statement (.setMode m a) := by
  simp [Statement, encode, hostWord, rowBits, tableRow]
theorem write (rs : Bool) (a : BitVec 7) (n : Nat) (p : List Byte) : Statement (.write rs a n p) := by
  simp [Statement, encode, hostWord, rowBits, tableRow]
theorem writeText (rs : Bool) (a : BitVec 7) (n : Nat) (p : List Byte) : Statement (.writeText rs a n p) := by
  simp [Statement, encode, hostWord, rowBits, tableRow]
theorem slaveStage (n : Nat) (p : List Byte) : Statement (.slaveStage n p) := by
  simp [Statement, encode, hostWord, rowBits, tableRow]
theorem read (rs : Bool) (a : BitVec 7) (n : Nat) : Statement (.read rs a n) := by
  simp [Statement, encode, hostWord, rowBits, tableRow]
theorem isReady : Statement .isReady := rfl
theorem isAvailable : Statement .isAvailable := rfl
theorem hostReserved : Statement .hostReserved := rfl

end Sys2Proof.Laws.Row
end

