-- ==== Sys2Proof/Tests/Slice0.lean ====
section
/-!
SUPPORT. The model's own tests: the checks of WellFormed each refusing an ill-formed term; a word written out from the
spec for every constructor; one or two single steps per instruction, with expected results from the vectors of
95_test_vectors (V…, P…) and the examples of the rules; and for every statement with hypotheses a state that meets them.
-/

namespace Sys2Proof.Tests

open Sys2Proof.Machine Sys2Proof.Safety

/-! ### Helpers -/

/-- The state an outcome gives, if it is a next state. -/
def after : Res → Option State
  | .next s => some s
  | .fault _ => none
  | .refused _ => none

/-- A field of the state an outcome gives. -/
def field {α : Type} (r : Res) (f : State → α) : Option α := (after r).map f

/-- Whether an outcome is a next state. -/
def completes (r : Res) : Bool := (after r).isSome

/-- The refusal of an outcome, if it is one. -/
def refusal : Res → Option Refusal
  | .next _ => none
  | .fault _ => none
  | .refused e => some e

theorem next_of_completes {r : Res} (h : completes r = true) : ∃ t, r = .next t := by
  cases r with
  | next t => exact ⟨t, rfl⟩
  | fault e => exact absurd h (by simp [completes, after])
  | refused e => exact absurd h (by simp [completes, after])

/-- A state with TX bytes, cursor and length, and a BusState. -/
def tx (bs : List Byte) (i n : Nat) (b : BusState) : State :=
  { State.reset with txBuf := Memory.writeBytes [] 0 bs, txIndex := i, txLen := n, busState := b }

/-- A state with RX bytes, cursor and length, and a BusState. -/
def rx (bs : List Byte) (i n : Nat) (b : BusState) : State :=
  { State.reset with rxBuf := Memory.writeBytes [] 0 bs, rxIndex := i, rxLen := n, busState := b }

/-- A state in which the environment delivers one event. -/
def ev (s : State) (code din : Byte) : State := { s with turns := [.event code din] }

/-- A state in which the host presents one request. -/
def host (s : State) (h : BitVec 16) (n : Nat) (p : List Byte) : State :=
  { s with turns := [.host], requests := [⟨h, n, p⟩] }

/-! ### WellFormed: an ill-formed term for each check -/

theorem test_wf_unrecognized_refuses_a_known_code :
    (Instr.evUnrecognized 0x08#8).wellFormed defaultParams = false ∧
    (Instr.evUnrecognized 0xC0#8).wellFormed defaultParams = false ∧
    (Instr.evUnrecognized 0xC8#8).wellFormed defaultParams = true := by decide

theorem test_wf_write_refuses_a_wide_length :
    (Instr.write false 0x50#7 65536 []).wellFormed defaultParams = false := by decide

theorem test_wf_write_refuses_a_short_payload :
    (Instr.write false 0x50#7 2 [0xAA#8]).wellFormed defaultParams = false ∧
    (Instr.write false 0x50#7 1 [0xAA#8]).wellFormed defaultParams = true := by decide

theorem test_wf_writeText_refuses :
    (Instr.writeText false 0x50#7 65536 []).wellFormed defaultParams = false ∧
    (Instr.writeText false 0x50#7 1 []).wellFormed defaultParams = false := by decide

theorem test_wf_slaveStage_refuses :
    (Instr.slaveStage 65536 []).wellFormed defaultParams = false ∧
    (Instr.slaveStage 0 [0x10#8]).wellFormed defaultParams = false := by decide

theorem test_wf_read_refuses_a_wide_length :
    (Instr.read false 0x50#7 65536).wellFormed defaultParams = false ∧
    (Instr.read false 0x50#7 65535).wellFormed defaultParams = true := by decide

theorem test_params_refuse_a_narrow_length : ¬ { defaultParams with lenW := 2 }.Valid := by
  intro h; exact absurd h.1 (by decide)

theorem test_params_refuse_a_shared_code :
    ¬ { defaultParams with status := { defaultStatusBinding with stSlaAck := 0x08#8 } }.Valid := by
  intro h; exact absurd (h.2 .startSent .stSlaAck rfl) (by decide)

/-! ### Decoding: words written out bit by bit (R62, R65, R67, R68) -/

theorem test_decode_ev_startSent : decode defaultParams (.ev 0b00001000#8) = .ok .evStartSent := by decide
theorem test_decode_ev_repStartSent : decode defaultParams (.ev 0b00010000#8) = .ok .evRepStartSent := by decide
theorem test_decode_ev_mtSlaAck : decode defaultParams (.ev 0b00011000#8) = .ok .evMtSlaAck := by decide
theorem test_decode_ev_mtSlaNack : decode defaultParams (.ev 0b00100000#8) = .ok .evMtSlaNack := by decide
theorem test_decode_ev_mtDataAck : decode defaultParams (.ev 0b00101000#8) = .ok .evMtDataAck := by decide
theorem test_decode_ev_mtDataNack : decode defaultParams (.ev 0b00110000#8) = .ok .evMtDataNack := by decide
theorem test_decode_ev_arbLost : decode defaultParams (.ev 0b00111000#8) = .ok .evArbLost := by decide
theorem test_decode_ev_mrSlaAck : decode defaultParams (.ev 0b01000000#8) = .ok .evMrSlaAck := by decide
theorem test_decode_ev_mrSlaNack : decode defaultParams (.ev 0b01001000#8) = .ok .evMrSlaNack := by decide
theorem test_decode_ev_mrDataAck : decode defaultParams (.ev 0b01010000#8) = .ok .evMrDataAck := by decide
theorem test_decode_ev_mrDataNack : decode defaultParams (.ev 0b01011000#8) = .ok .evMrDataNack := by decide
theorem test_decode_ev_srSlaAck : decode defaultParams (.ev 0b01100000#8) = .ok .evSrSlaAck := by decide
theorem test_decode_ev_srGcallAck : decode defaultParams (.ev 0b01110000#8) = .ok .evSrGcallAck := by decide
theorem test_decode_ev_srDataAck : decode defaultParams (.ev 0b10000000#8) = .ok .evSrDataAck := by decide
theorem test_decode_ev_srGcallDataAck : decode defaultParams (.ev 0b10010000#8) = .ok .evSrGcallDataAck := by decide
theorem test_decode_ev_srStop : decode defaultParams (.ev 0b10100000#8) = .ok .evSrStop := by decide
theorem test_decode_ev_stSlaAck : decode defaultParams (.ev 0b10101000#8) = .ok .evStSlaAck := by decide
theorem test_decode_ev_stDataAck : decode defaultParams (.ev 0b10111000#8) = .ok .evStDataAck := by decide
theorem test_decode_ev_stDataNack : decode defaultParams (.ev 0b11000000#8) = .ok .evStDataNack := by decide
theorem test_decode_ev_unrecognized :
    decode defaultParams (.ev 0b11111000#8) = .ok (.evUnrecognized 0xF8#8) ∧
    decode defaultParams (.ev 0b00001001#8) = .ok (.evUnrecognized 0x09#8) := by decide
theorem test_decode_cmd_start : decode defaultParams (.cmd 0b000#3) = .ok .start := by decide
theorem test_decode_cmd_stop : decode defaultParams (.cmd 0b001#3) = .ok .stop := by decide
theorem test_decode_cmd_transmitData : decode defaultParams (.cmd 0b010#3) = .ok .transmitData := by decide
theorem test_decode_cmd_transmitAck : decode defaultParams (.cmd 0b011#3) = .ok .transmitAck := by decide
theorem test_decode_cmd_transmitNack : decode defaultParams (.cmd 0b100#3) = .ok .transmitNack := by decide
theorem test_decode_cmd_enableSlaveReset : decode defaultParams (.cmd 0b101#3) = .ok .enableSlaveReset := by decide
theorem test_decode_host_setMode :
    decode defaultParams (.host ⟨0b0000100001000010#16, 0, []⟩) = .ok (.setMode .slave 0x42#7) ∧
    decode defaultParams (.host ⟨0b0000000000000000#16, 0, []⟩) = .ok (.setMode .master 0x00#7) := by decide
/-- The second header has the reserved bits 10 to 8 set (V45), the third a[7] (V42, R70). -/
theorem test_decode_host_write :
    decode defaultParams (.host ⟨0b0010000001010000#16, 0, []⟩) = .ok (.write false 0x50#7 0 []) ∧
    decode defaultParams (.host ⟨0b0010011101010000#16, 0, []⟩) = .ok (.write false 0x50#7 0 []) ∧
    decode defaultParams (.host ⟨0b0011000011010000#16, 1, [0x3B#8]⟩) = .ok (.write true 0x50#7 1 [0x3B#8]) := by decide
theorem test_decode_host_writeText :
    decode defaultParams (.host ⟨0b0100000001010000#16, 1, [0x48#8]⟩) = .ok (.writeText false 0x50#7 1 [0x48#8]) := by
  decide
theorem test_decode_host_slaveStage :
    decode defaultParams (.host ⟨0b0110000000000000#16, 2, [0x10#8, 0x20#8]⟩) = .ok (.slaveStage 2 [0x10#8, 0x20#8]) := by
  decide
theorem test_decode_host_read :
    decode defaultParams (.host ⟨0b1000000001010000#16, 2, []⟩) = .ok (.read false 0x50#7 2) ∧
    decode defaultParams (.host ⟨0b1001000001010000#16, 1, []⟩) = .ok (.read true 0x50#7 1) := by decide
theorem test_decode_host_isReady : decode defaultParams (.host ⟨0b1010000000000000#16, 0, []⟩) = .ok .isReady := by decide
theorem test_decode_host_isAvailable : decode defaultParams (.host ⟨0b1100000000000000#16, 0, []⟩) = .ok .isAvailable := by
  decide
theorem test_decode_host_reserved : decode defaultParams (.host ⟨0b1110000000000000#16, 0, []⟩) = .ok .hostReserved := by
  decide

/-- Words no port carries, refused by name (R65, R67). -/
theorem test_decode_refuses_by_name :
    decode defaultParams (.cmd 0b110#3) = .error .reservedCommand ∧
    decode defaultParams (.cmd 0b111#3) = .error .reservedCommand ∧
    decode defaultParams (.host ⟨0x2050#16, 65536, []⟩) = .error .lengthTooWide ∧
    decode defaultParams (.host ⟨0x8050#16, 65536, []⟩) = .error .lengthTooWide ∧
    decode defaultParams (.host ⟨0x2050#16, 1, []⟩) = .error .payloadLength := by decide

/-- Table words, numbered as the table numbers them: the header lowest, then `n`, then the payload. -/
theorem test_decodeTableWord :
    decodeTableWord 8 0x08 = some .evStartSent ∧ decodeTableWord 3 5 = some .enableSlaveReset ∧
    decodeTableWord 8 2 = some .transmitData ∧ decodeTableWord 16 0xE000 = some .hostReserved ∧
    decodeTableWord 16 0x55AA00022050 = some (.write false 0x50#7 2 [0xAA#8, 0x55#8]) := by decide

/-! ### Reset -/

/-- R28. -/
theorem test_reset : State.reset.busState = .available ∧ State.reset.mode = .master ∧ State.reset.ctl = 0x00#8 ∧
    State.reset.addrMatch = 0x00#8 ∧ State.reset.lastErr = none ∧ State.reset.trace = [] := by decide

/-- R180: `rst` in the middle of a transfer. -/
theorem test_rst :
    field (step { tx [0xA0#8] 1 1 .masterTransmitting with turns := [.rst], lastErr := some 0x20#8 })
      (fun t => (t.busState, t.txIndex, t.txLen, t.lastErr)) = some (.available, 0, 0, none) := by decide

/-- Interface: a placed table word is the first instruction after reset. -/
theorem test_withFetchWord :
    field (step (State.reset.withFetchWord 16 0x0842)) (fun t => t.addrMatch) = some 0x85#8 ∧
    field (step (State.reset.withFetchWord 8 0x60)) (fun t => t.busState) = some .slaveReceiving ∧
    field (step (State.reset.withFetchWord 3 1)) (fun t => t.ctl) = some 0x95#8 := by decide

/-! ### One step per instruction: master events -/

/-- P1 step 3. -/
theorem test_evStartSent :
    field (step (ev (tx [0xA0#8, 0xAA#8] 0 2 .initializing) 0x08#8 0x77#8))
      (fun t => (t.data, t.txIndex, t.trace, t.busState)) =
      some (0xA0#8, 1, [.data 0xA0#8, .cmd .transmitData], .initializing) := by decide

/-- V22. -/
theorem test_evStartSent_nothing_staged :
    field (step (ev (tx [] 0 0 .available) 0x08#8 0x77#8)) (fun t => (t.txIndex, t.trace, t.busState)) =
      some (0, [.cmd .stop], .available) := by decide

/-- R103: no command, so the event stays pending (R26 d). -/
theorem test_evRepStartSent :
    field (step (ev (tx [0xD0#8, 0x3B#8] 2 2 .masterTransmitting) 0x10#8 0x77#8))
      (fun t => (t.busState, t.txIndex, t.trace, t.cmd, t.pending)) = some (.repeatedStartSent, 0, [], none, true) := by
  decide

/-- P1 step 4. -/
theorem test_evMtSlaAck :
    field (step (ev (tx [0xA0#8, 0xAA#8] 1 2 .initializing) 0x18#8 0x77#8))
      (fun t => (t.busState, t.data, t.txIndex)) = some (.masterTransmitting, 0xAA#8, 2) := by decide

/-- V1, V53: no payload, so STOP and Available in the same step. -/
theorem test_evMtSlaAck_no_payload :
    field (step (ev (tx [0xA0#8] 1 1 .initializing) 0x18#8 0x77#8)) (fun t => (t.busState, t.trace, t.ctl)) =
      some (.available, [.cmd .stop], 0x95#8) := by decide

/-- V15's kind, with the code of R110. -/
theorem test_evMtSlaNack :
    field (step (ev { tx [0xA0#8] 1 1 .initializing with repStart := true } 0x20#8 0x77#8))
      (fun t => (t.busState, t.lastErr, t.trace, t.repStart)) =
      some (.available, some 0x20#8, [.cmd .stop], true) := by decide

/-- P3 step 5: the chain goes on. -/
theorem test_evMtDataAck_chain :
    field (step (ev { tx [0xD0#8, 0x3B#8] 2 2 .masterTransmitting with repStart := true } 0x28#8 0x77#8))
      (fun t => (t.busState, t.trace)) = some (.masterTransmitting, [.cmd .start]) := by decide

/-- V54: the handler does not look at `state`. -/
theorem test_evMtDataAck_any_state :
    field (step (ev (tx [0xA0#8, 0x5A#8] 1 2 .slaveReceiving) 0x28#8 0x77#8)) (fun t => (t.busState, t.data, t.txIndex)) =
      some (.slaveReceiving, 0x5A#8, 2) := by decide

/-- V7: the byte left is never sent. -/
theorem test_evMtDataNack :
    field (step (ev (tx [0xA0#8, 0xAA#8, 0x55#8] 2 3 .masterTransmitting) 0x30#8 0x77#8))
      (fun t => (t.busState, t.lastErr, t.txIndex, t.trace)) = some (.available, some 0x30#8, 2, [.cmd .stop]) := by decide

/-- V8: with a repeated start the chain goes on. -/
theorem test_evMtDataNack_chain :
    field (step (ev { tx [0xA0#8, 0xAA#8, 0x55#8] 2 3 .masterTransmitting with repStart := true } 0x30#8 0x77#8))
      (fun t => (t.busState, t.lastErr, t.trace)) = some (.masterTransmitting, some 0x30#8, [.cmd .start]) := by decide

/-- V9. -/
theorem test_evArbLost :
    field (step (ev { tx [0xA0#8] 1 3 .initializing with repStart := true } 0x38#8 0x77#8))
      (fun t => (t.busState, t.lastErr, t.trace)) = some (.available, some 0x38#8, [.cmd .stop]) := by decide

/-- P2 step 4 and V10: (0,2) ACK, (0,1) NACK. -/
theorem test_evMrSlaAck :
    field (step (ev (rx [] 0 2 .initializing) 0x40#8 0x77#8)) (fun t => (t.busState, t.trace, t.ctl)) =
      some (.masterReceiving, [.cmd .transmitAck], 0xC5#8) ∧
    field (step (ev (rx [] 0 1 .initializing) 0x40#8 0x77#8)) (fun t => (t.trace, t.ctl, t.rxIndex)) =
      some ([.cmd .transmitNack], 0x85#8, 0) := by decide

/-- V15. -/
theorem test_evMrSlaNack :
    field (step (ev { rx [] 0 2 .initializing with openReq := some (.reading 2) } 0x48#8 0x77#8))
      (fun t => (t.busState, t.lastErr, t.openReq)) =
      some (.available, some 0x48#8, some (.reading 2)) := by decide

/-- P2 step 5. -/
theorem test_evMrDataAck :
    field (step (ev (rx [] 0 2 .masterReceiving) 0x50#8 0x12#8)) (fun t => (t.rxBuf, t.rxIndex, t.trace)) =
      some ([(0, 0x12#8)], 1, [.cmd .transmitNack]) := by decide

/-- V52: no room, so the byte is discarded. -/
theorem test_evMrDataAck_discards :
    field (step (ev (rx [] 0 0 .available) 0x50#8 0x11#8)) (fun t => (t.rxBuf, t.rxIndex, t.busState, t.trace)) =
      some ([], 0, .available, [.cmd .transmitNack]) := by decide

/-- P2 step 6. -/
theorem test_evMrDataNack :
    field (step (ev (rx [0x12#8] 1 2 .masterReceiving) 0x58#8 0x34#8))
      (fun t => (t.rxBuf, t.rxIndex, t.busState, t.trace)) =
      some ([(0, 0x12#8), (1, 0x34#8)], 2, .available, [.cmd .stop]) := by decide

/-- V16: with a repeated start the state stays. -/
theorem test_evMrDataNack_chain :
    field (step (ev { rx [] 0 1 .masterReceiving with repStart := true } 0x58#8 0xE1#8)) (fun t => (t.busState, t.trace)) =
      some (.masterReceiving, [.cmd .start]) := by decide

/-! ### One step per instruction: slave events and the catch-all -/

/-- P4 step 2. -/
theorem test_evSrSlaAck :
    field (step (ev (rx [0x09#8] 1 4 .available) 0x60#8 0x77#8)) (fun t => (t.rxIndex, t.rxLen, t.busState, t.trace)) =
      some (0, 4, .slaveReceiving, [.cmd .transmitAck]) := by decide

/-- V31. -/
theorem test_evSrGcallAck :
    field (step (ev (rx [] 0 0 .available) 0x70#8 0x77#8)) (fun t => (t.rxIndex, t.rxLen, t.busState, t.trace)) =
      some (0, 4, .slaveReceiving, [.cmd .transmitAck]) := by decide

/-- P4 step 4. -/
theorem test_evSrDataAck :
    field (step (ev (rx [0x01#8] 1 4 .slaveReceiving) 0x80#8 0x02#8)) (fun t => (t.rxBuf, t.rxIndex, t.trace)) =
      some ([(0, 0x01#8), (1, 0x02#8)], 2, [.cmd .transmitAck]) := by decide

/-- V32, V76: the buffer is full. -/
theorem test_evSrDataAck_full :
    field (step (ev (rx [1#8, 2#8, 3#8, 4#8] 4 4 .slaveReceiving) 0x80#8 0x05#8)) (fun t => (t.rxBuf, t.rxIndex, t.trace)) =
      some ([(0, 1#8), (1, 2#8), (2, 3#8), (3, 4#8)], 4, [.cmd .transmitAck]) := by decide

/-- V31. -/
theorem test_evSrGcallDataAck :
    field (step (ev (rx [] 0 4 .slaveReceiving) 0x90#8 0x06#8)) (fun t => (t.rxBuf, t.rxIndex, t.busState)) =
      some ([(0, 0x06#8)], 1, .slaveReceiving) := by decide

/-- P4 step 6. -/
theorem test_evSrStop :
    field (step (ev (rx [1#8, 2#8, 3#8] 3 4 .slaveReceiving) 0xA0#8 0x77#8))
      (fun t => (t.busState, t.rxIndex, t.rxLen, t.trace, t.rxView)) =
      some (.available, 3, 4, [.cmd .enableSlaveReset], [1#8, 2#8, 3#8]) := by decide

/-- P5 step 3 and V30. -/
theorem test_evStSlaAck :
    field (step (ev (tx [0x10#8, 0x20#8] 2 2 .available) 0xA8#8 0x77#8))
      (fun t => (t.busState, t.data, t.txIndex, t.trace)) =
      some (.slaveTransmitting, 0x10#8, 1, [.data 0x10#8, .cmd .enableSlaveReset]) ∧
    field (step (ev (tx [] 0 0 .available) 0xA8#8 0x77#8)) (fun t => (t.busState, t.data, t.txIndex)) =
      some (.slaveTransmitting, 0x00#8, 0) := by decide

/-- P5 steps 4 and 5. -/
theorem test_evStDataAck :
    field (step (ev (tx [0x10#8, 0x20#8] 1 2 .slaveTransmitting) 0xB8#8 0x77#8)) (fun t => (t.data, t.txIndex)) =
      some (0x20#8, 2) ∧
    field (step (ev (tx [0x10#8, 0x20#8] 2 2 .slaveTransmitting) 0xB8#8 0x77#8)) (fun t => (t.data, t.txIndex, t.trace)) =
      some (0x00#8, 2, [.data 0x00#8, .cmd .enableSlaveReset]) := by decide

/-- P5 step 6. -/
theorem test_evStDataNack :
    field (step (ev (tx [0x10#8, 0x20#8] 2 2 .slaveTransmitting) 0xC0#8 0x77#8))
      (fun t => (t.busState, t.lastErr, t.txIndex, t.trace)) = some (.available, none, 2, [.cmd .enableSlaveReset]) := by
  decide

/-- V50 and V51. -/
theorem test_evUnrecognized :
    field (step (ev (tx [0xA0#8] 1 3 .masterTransmitting) 0xF8#8 0x77#8))
      (fun t => (t.busState, t.lastErr, t.txIndex, t.txLen, t.trace)) =
      some (.available, some 0xF8#8, 1, 3, [.cmd .enableSlaveReset]) ∧
    field (step (ev State.reset 0x00#8 0x77#8)) (fun t => t.lastErr) = some (some 0x00#8) := by decide

/-! ### One step per instruction: commands (V60 to V65) -/

theorem test_start :
    field (exec .start State.reset) (fun t => (t.cmd, t.ctl, t.trace)) = some (some 0#3, 0xA5#8, [.cmd .start]) := by decide
theorem test_stop :
    field (exec .stop State.reset) (fun t => (t.cmd, t.ctl, t.trace)) = some (some 1#3, 0x95#8, [.cmd .stop]) := by decide
theorem test_transmitData :
    field (exec .transmitData State.reset) (fun t => (t.cmd, t.ctl, t.trace)) =
      some (some 2#3, 0x85#8, [.cmd .transmitData]) := by decide
theorem test_transmitAck :
    field (exec .transmitAck State.reset) (fun t => (t.cmd, t.ctl, t.trace)) =
      some (some 3#3, 0xC5#8, [.cmd .transmitAck]) := by decide
theorem test_transmitNack :
    field (exec .transmitNack State.reset) (fun t => (t.cmd, t.ctl, t.trace)) =
      some (some 4#3, 0x85#8, [.cmd .transmitNack]) := by decide
theorem test_enableSlaveReset :
    field (exec .enableSlaveReset State.reset) (fun t => (t.cmd, t.ctl, t.trace)) =
      some (some 5#3, 0xC5#8, [.cmd .enableSlaveReset]) := by decide

/-! ### One step per instruction: requests -/

/-- V42: `a[7]` is ignored, `lastErr` kept. -/
theorem test_setMode_slave :
    field (step (host { rx [] 2 2 .available with txLen := 3, repStart := true, lastErr := some 0x20#8 } 0x08C2#16 0 []))
      (fun t => (t.mode, t.addrMatch, t.lastErr, t.rxLen, t.trace)) =
      some (.slave, 0x85#8, some 0x20#8, 0, [.addr 0x85#8, .cmd .enableSlaveReset]) := by decide

/-- V41 and V43. -/
theorem test_setMode_master :
    field (step (host State.reset 0x0000#16 0 [])) (fun t => (t.mode, t.ctl, t.cmd, t.trace)) =
      some (.master, 0x05#8, none, [.addr 0x00#8, .arm]) ∧
    refusal (step (host (tx [] 0 0 .masterTransmitting) 0x0000#16 0 [])) = some .setModeOutsideAvailable := by decide

/-- V3: `n = TX_CAP`. -/
theorem test_write :
    field (step (host State.reset 0x2050#16 4 [1#8, 2#8, 3#8, 4#8]))
      (fun t => (t.txBuf, t.txLen, t.txIndex)) =
      some ([(0, 0xA0#8), (1, 1#8), (2, 2#8), (3, 3#8), (4, 4#8)], 5, 0) ∧
    field (step (host State.reset 0x2050#16 4 [1#8, 2#8, 3#8, 4#8])) (fun t => (t.busState, t.trace, t.replies)) =
      some (.initializing, [.cmd .start], [.ok true]) := by decide

/-- V5 (oversized, at once) and V21 (held). -/
theorem test_write_rejected_and_held :
    field (step (host (tx [] 0 0 .masterTransmitting) 0x2050#16 5 [1#8, 2#8, 3#8, 4#8, 5#8]))
      (fun t => (t.replies, t.openReq, t.trace)) = some ([.ok false], none, []) ∧
    field (step (host (tx [] 0 0 .initializing) 0x2050#16 1 [1#8])) (fun t => (t.replies, t.openReq, t.trace)) =
      some ([], some (.held (.write false 0x50#7 1 [1#8])), []) := by decide

/-- V6. -/
theorem test_writeText :
    field (step (host State.reset 0x4050#16 6 [0x48#8, 0x45#8, 0x4C#8, 0x4C#8, 0x4F#8, 0x21#8]))
      (fun t => (t.txBuf, t.txLen, t.busState, t.replies)) =
      some ([(0, 0xA0#8), (1, 0x48#8), (2, 0x45#8), (3, 0x4C#8), (4, 0x4C#8)], 5, .initializing, []) := by decide

/-- P5 step 2. -/
theorem test_slaveStage :
    field (step (host State.reset 0x6000#16 2 [0x10#8, 0x20#8]))
      (fun t => (t.txBuf, t.txLen, t.txIndex, t.busState, t.trace)) =
      some ([(0, 0x10#8), (1, 0x20#8)], 2, 0, .available, []) := by decide

/-- P3 step 7: bridging after a repeated START. -/
theorem test_read :
    field (step (host { tx [0xD0#8, 0x3B#8] 0 2 .repeatedStartSent with repStart := true } 0x8068#16 1 []))
      (fun t => (t.rxLen, t.txBuf, t.txLen, t.txIndex)) = some (1, [(0, 0xD1#8), (1, 0x3B#8)], 1, 1) ∧
    field (step (host { tx [0xD0#8, 0x3B#8] 0 2 .repeatedStartSent with repStart := true } 0x8068#16 1 []))
      (fun t => (t.repStart, t.trace, t.openReq)) =
      some (false, [.data 0xD1#8, .cmd .transmitData], some (.reading 1)) := by decide

/-- P2 step 7: phase 2, and V15: an open READ waits though the bus is Available. -/
theorem test_read_phase2 :
    field (step { rx [0x12#8, 0x34#8] 2 2 .available with openReq := some (.reading 2), turns := [.host] })
      (fun t => (t.replies, t.openReq)) = some ([.bytes [0x12#8, 0x34#8]], none) ∧
    field (step { rx [0x12#8] 1 2 .available with openReq := some (.reading 2), turns := [.host] })
      (fun t => (t.replies, t.openReq)) = some ([], some (.reading 2)) := by decide

/-- V40. -/
theorem test_isReady :
    field (step (host (tx [] 0 0 .repeatedStartSent) 0xA000#16 0 [])) (fun t => t.replies) = some [.flag true] ∧
    field (step (host (tx [] 0 0 .initializing) 0xA000#16 0 [])) (fun t => t.replies) = some [.flag false] := by decide

/-- V40. -/
theorem test_isAvailable :
    field (step (host (tx [] 0 0 .repeatedStartSent) 0xC000#16 0 [])) (fun t => t.replies) = some [.flag false] ∧
    field (step (host State.reset 0xC000#16 0 [])) (fun t => t.replies) = some [.flag true] := by decide

/-- V44. -/
theorem test_hostReserved :
    field (step (host State.reset 0xE000#16 0 [])) (fun t => (t.replies, t.trace, t.busState)) =
      some ([.ok false], [], .available) := by decide

/-! ### Witnesses: every statement's hypotheses are met together -/

/-- A code that is none of the nineteen. -/
theorem no_event_has_code_00 : ∀ e : Event, defaultParams.status.code e ≠ 0x00#8 := by
  intro e; cases e <;> decide

theorem test_witness_RstReturnsTheBlockToReset :
    ({ tx [0xA0#8] 1 1 .masterTransmitting with turns := [.rst] }).turns = .rst :: [] := rfl

theorem test_witness_DecodeOfEncodeIsTheInstruction :
    defaultParams.Valid ∧ (Instr.write true 0x7F#7 4 [1#8, 2#8, 3#8, 4#8]).wellFormed defaultParams = true ∧
    (Instr.evUnrecognized 0xFF#8).wellFormed defaultParams = true ∧
    (Instr.read false 0x00#7 65535).wellFormed defaultParams = true := ⟨defaultParams_valid, by decide⟩

theorem test_witness_DecodedWordIsWellFormed :
    decode defaultParams (.host ⟨0x3050#16, 1, [0xAA#8]⟩) = .ok (.write true 0x50#7 1 [0xAA#8]) := by decide

theorem test_witness_EveryOtherCodeIsUnrecognized : ∀ e : Event, defaultParams.status.code e ≠ 0x00#8 := no_event_has_code_00

theorem test_witness_ReservedHostBitsAreIgnored :
    (0xFFFF#16).extractLsb' 13 3 = 7#3 ∧ 0x2750#16 &&& 0xF87F#16 = 0x20D0#16 &&& 0xF87F#16 := by decide

theorem test_witness_BusStateCodes : busCode .slaveReceiving = busCode .slaveReceiving := rfl

theorem test_witness_StepRunsTheDecodedWord :
    (ev State.reset 0x08#8 0x12#8).turns = .event 0x08#8 0x12#8 :: [] ∧
    decode State.reset.params (.ev 0x08#8) = .ok .evStartSent ∧
    ({ State.reset with turns := [.issue 1#3] }).turns = .issue 1#3 :: [] ∧
    decode State.reset.params (.cmd 1#3) = .ok .stop ∧
    (host State.reset 0xA000#16 0 []).turns = .host :: [] ∧ (host State.reset 0xA000#16 0 []).openReq = none ∧
    (host State.reset 0xA000#16 0 []).requests = ⟨0xA000#16, 0, []⟩ :: [] ∧
    decode State.reset.params (.host ⟨0xA000#16, 0, []⟩) = .ok .isReady := by decide

/-- A held WRITE at the host's turn. -/
def heldState : State := { State.reset with turns := [.host], openReq := some (.held (.write false 0x50#7 1 [1#8])) }

theorem test_witness_HeldRequestIsTriedAgain :
    heldState.turns = .host :: [] ∧ heldState.openReq = some (.held (.write false 0x50#7 1 [1#8])) := ⟨rfl, rfl⟩

theorem test_witness_NothingScheduledNothingHappens :
    State.reset.turns = [] ∧ ({ State.reset with turns := [.host] }).turns = .host :: [] ∧
    State.reset.openReq = none ∧ State.reset.requests = [] := by decide

theorem test_witness_HostIsSequential :
    (heldState.openReq ≠ none ∧ ∃ t, step heldState = .next t) ∧
    ((host State.reset 0xA000#16 0 []).turns = .host :: [] ∧ (host State.reset 0xA000#16 0 []).openReq = none ∧
      ∃ t, step (host State.reset 0xA000#16 0 []) = .next t) :=
  ⟨⟨by decide, next_of_completes (by decide)⟩, rfl, rfl, next_of_completes (by decide)⟩

theorem test_witness_ParametersNeverChange : ∃ t, step (host State.reset 0x0000#16 0 []) = .next t :=
  next_of_completes (by decide)

/-- Of OneStepPutsOutAtMostOneCommand and StrobeCarriesTheStepsCommand. -/
theorem test_witness_OneStepPutsOutAtMostOneCommand :
    (∃ t, step (ev (tx [0xA0#8] 0 1 .initializing) 0x08#8 0x77#8) = .next t) ∧
    (ev (tx [0xA0#8] 0 1 .initializing) 0x08#8 0x77#8).turns.head? ≠ some .rst :=
  ⟨next_of_completes (by decide), by decide⟩

theorem test_witness_StrobeCarriesTheStepsCommand :
    (∃ t, step (host State.reset 0x0000#16 0 []) = .next t) ∧ (host State.reset 0x0000#16 0 []).turns.head? ≠ some .rst :=
  ⟨next_of_completes (by decide), by decide⟩

/-- Each clause: one byte staged; nothing staged with and without a repeated start. -/
theorem test_witness_StartSentSendsTheAddressByte :
    0 < (tx [0xA0#8] 0 1 .initializing).txLen ∧
    (({ State.reset with repStart := true }).txLen = 0 ∧ ({ State.reset with repStart := true }).repStart = true) ∧
    (State.reset.txLen = 0 ∧ State.reset.repStart = false) := by decide

/-- The last byte of `txBuf`, and no byte left. -/
theorem test_witness_AcknowledgeSendsTheNextByteOrCompletes :
    txCursorInside (tx [1#8, 2#8, 3#8, 4#8, 5#8] 4 5 .masterTransmitting) ∧
    txCursorInside (tx [1#8, 2#8, 3#8, 4#8, 5#8] 5 5 .masterTransmitting) := by
  constructor <;> intro _ <;> revert ‹_› <;> decide

theorem test_witness_DataNackIsRecordedAndEndsTheTransfer :
    ({ State.reset with repStart := true }).repStart = true ∧ State.reset.repStart = false := by decide

/-- (0,2) meets the first clause, (0,1) and (0,0) the second. -/
theorem test_witness_ReadAddressAckChoosesAckOrNack :
    (rx [] 0 2 .initializing).rxIndex + 1 < (rx [] 0 2 .initializing).rxLen ∧
    (rx [] 0 1 .initializing).rxLen ≤ (rx [] 0 1 .initializing).rxIndex + 1 ∧
    (rx [] 0 0 .initializing).rxLen ≤ (rx [] 0 0 .initializing).rxIndex + 1 := by decide

/-- The last byte of `rxBuf`, and no room left. -/
theorem test_witness_MasterReceiveStoresAndAnswers :
    rxCursorInside (rx [1#8, 2#8, 3#8] 3 4 .masterReceiving) ∧
    rxCursorInside (rx [1#8, 2#8, 3#8, 4#8] 4 4 .masterReceiving) := by
  constructor <;> intro _ <;> revert ‹_› <;> decide

theorem test_witness_SlaveTransmitterSendsStagedBytes :
    txCursorInside (tx [1#8, 2#8, 3#8, 4#8] 3 4 .slaveTransmitting) ∧
    txCursorInside (tx [1#8, 2#8, 3#8, 4#8] 4 4 .slaveTransmitting) := by
  constructor <;> intro _ <;> revert ‹_› <;> decide

theorem test_witness_SlaveReceiverStoresBytes :
    rxCursorInside (rx [1#8, 2#8, 3#8] 3 4 .slaveReceiving) ∧
    rxCursorInside (rx [1#8, 2#8, 3#8, 4#8] 4 4 .slaveReceiving) := by
  constructor <;> intro _ <;> revert ‹_› <;> decide

theorem test_witness_UnrecognizedCodeNeverWedgesTheBus :
    (ev (tx [0xA0#8] 1 3 .masterTransmitting) 0x00#8 0x77#8).turns = .event 0x00#8 0x77#8 :: [] ∧
    ∀ e : Event, (ev (tx [0xA0#8] 1 3 .masterTransmitting) 0x00#8 0x77#8).params.status.code e ≠ 0x00#8 :=
  ⟨rfl, no_event_has_code_00⟩

/-- With every cursor at its bound. -/
theorem test_witness_EveryEventCompletes :
    isEvent .evSrDataAck = true ∧
    CursorsInBounds { tx [1#8, 2#8, 3#8, 4#8, 5#8] 5 5 .slaveReceiving with rxIndex := 4, rxLen := 4 } := by decide

/-- Each clause: an event that completes, and one that faults (a state R30 rules out). -/
theorem test_witness_HandlerIgnoresStateAndMode :
    isEvent .evMtDataAck = true ∧ (∃ t, exec .evMtDataAck (tx [0xA0#8] 0 1 .masterTransmitting) = .next t) ∧
    exec .evMtDataAck (tx [] 5 6 .masterTransmitting) = .fault .txOutOfRange :=
  ⟨rfl, next_of_completes (by decide), rfl⟩

theorem test_witness_HandlerFrame :
    (isEvent .evMrDataAck = true ∧ isReceive .evMrDataAck = true ∧
      ∃ t, exec .evMrDataAck (rx [] 0 2 .masterReceiving) = .next t) ∧
    (isEvent .evStDataAck = true ∧ isReceive .evStDataAck = false ∧
      ∃ t, exec .evStDataAck (tx [0x10#8] 0 1 .slaveTransmitting) = .next t) :=
  ⟨⟨rfl, rfl, next_of_completes (by decide)⟩, rfl, rfl, next_of_completes (by decide)⟩

theorem test_witness_CursorOutsideTheBufferFaults :
    ((tx [] 5 6 .masterTransmitting).txIndex < (tx [] 5 6 .masterTransmitting).txLen ∧
      (tx [] 5 6 .masterTransmitting).params.txSize ≤ (tx [] 5 6 .masterTransmitting).txIndex) ∧
    ((rx [] 4 5 .masterReceiving).rxIndex < (rx [] 4 5 .masterReceiving).rxLen ∧
      (rx [] 4 5 .masterReceiving).params.rxCap ≤ (rx [] 4 5 .masterReceiving).rxIndex) := by decide

theorem ready_available : readyNow State.reset := .inl rfl
theorem ready_repeatedStart : readyNow (tx [0xD0#8] 0 1 .repeatedStartSent) := .inr rfl
theorem not_ready_initializing : ¬ readyNow (tx [0xD0#8] 0 1 .initializing) := by
  intro h; rcases h with h | h <;> exact absurd h (by decide)

/-- The clauses meet at `n = 4` and `n = 5` under `TX_CAP = 4`. -/
theorem test_witness_WriteRejectsHoldsOrStarts :
    ([1#8, 2#8, 3#8, 4#8, 5#8] : List Byte).length = 5 ∧ State.reset.params.txCap < 5 ∧
    ([1#8, 2#8, 3#8, 4#8] : List Byte).length = 4 ∧ 4 ≤ State.reset.params.txCap ∧ readyNow State.reset ∧
    readyNow (tx [0xD0#8] 0 1 .repeatedStartSent) ∧ ¬ readyNow (tx [0xD0#8] 0 1 .initializing) :=
  ⟨rfl, by decide, rfl, by decide, ready_available, ready_repeatedStart, not_ready_initializing⟩

theorem test_witness_WriteTextClampsAndStarts :
    ([1#8, 2#8, 3#8, 4#8, 5#8, 6#8] : List Byte).length = 6 ∧ readyNow State.reset ∧
    ¬ readyNow (tx [0xD0#8] 0 1 .initializing) := ⟨rfl, ready_available, not_ready_initializing⟩

theorem test_witness_SlaveStageStagesTheResponse :
    ([] : List Byte).length = 0 ∧ ([1#8, 2#8, 3#8, 4#8, 5#8] : List Byte).length = 5 ∧ readyNow State.reset ∧
    ¬ readyNow (tx [0xD0#8] 0 1 .initializing) := ⟨rfl, rfl, ready_available, not_ready_initializing⟩

/-- The clauses meet at `n = 4` and `n = 5` under `RX_CAP = 4`. -/
theorem test_witness_ReadRejectsHoldsOrStarts :
    State.reset.params.rxCap < 5 ∧ 4 ≤ State.reset.params.rxCap ∧ readyNow State.reset ∧
    readyNow (tx [0xD0#8] 0 1 .repeatedStartSent) ∧ ¬ readyNow (tx [0xD0#8] 0 1 .initializing) :=
  ⟨by decide, by decide, ready_available, ready_repeatedStart, not_ready_initializing⟩

/-- Each clause: one byte short of four, and all four. -/
theorem test_witness_ReadReturnsItsBytes :
    let s := { rx [1#8, 2#8, 3#8] 3 4 .masterReceiving with turns := [.host], openReq := some (.reading 4) }
    let u := { rx [1#8, 2#8, 3#8, 4#8] 4 4 .available with turns := [.host], openReq := some (.reading 4) }
    (s.turns = .host :: [] ∧ s.openReq = some (.reading 4) ∧ s.rxIndex ≠ 4) ∧
    (u.turns = .host :: [] ∧ u.openReq = some (.reading 4) ∧ u.rxIndex = 4 ∧ 4 ≤ u.params.rxCap) := by decide

theorem test_witness_OpenReadEndsOnlyByItsBytes :
    ({ ev (rx [] 0 2 .initializing) 0x48#8 0x77#8 with openReq := some (.reading 2) }).openReq = some (.reading 2) ∧
    ∃ t, step { ev (rx [] 0 2 .initializing) 0x48#8 0x77#8 with openReq := some (.reading 2) } = .next t :=
  ⟨rfl, next_of_completes (by decide)⟩

theorem test_witness_SetModeReconfiguresOrIsRefused :
    State.reset.busState = .available ∧ (tx [] 0 0 .repeatedStartSent).busState ≠ .available := by decide

theorem test_witness_QueriesNeverMutateState :
    readyNow State.reset ∧ ¬ readyNow (tx [0xD0#8] 0 1 .initializing) ∧ State.reset.busState = .available ∧
    (tx [0xD0#8] 0 1 .repeatedStartSent).busState ≠ .available :=
  ⟨ready_available, not_ready_initializing, rfl, by decide⟩

theorem test_witness_RequestFrame :
    isRequest (.write false 0x50#7 1 [1#8]) = true ∧ (∃ t, exec (.write false 0x50#7 1 [1#8]) State.reset = .next t) ∧
    State.reset.busState ≠ .repeatedStartSent ∧ (∀ m a, Instr.write false 0x50#7 1 [1#8] ≠ .setMode m a) :=
  ⟨rfl, next_of_completes (by decide), by decide, by simp⟩

/-- Each clause: an instruction's step, and READ's completion. -/
theorem test_witness_BusStateFollowsTheTable :
    (∃ t, exec .evMtSlaNack (tx [0xA0#8] 1 1 .initializing) = .next t) ∧
    (∃ t, readCompletion 2 (rx [1#8, 2#8] 2 2 .available) = .next t) :=
  ⟨next_of_completes (by decide), next_of_completes (by decide)⟩

theorem test_witness_ErrorsAreRecordedByTheTable : ∃ t, exec .evArbLost (tx [0xA0#8] 1 1 .initializing) = .next t :=
  next_of_completes (by decide)

theorem test_witness_LastErrIsSticky :
    let s := { host State.reset 0x0000#16 0 [] with lastErr := some 0x20#8 }
    (∃ t, step s = .next t) ∧ s.turns.head? ≠ some .rst ∧ s.lastErr ≠ none :=
  ⟨next_of_completes (by decide), by decide, by decide⟩

theorem test_witness_ConfigurationWriters :
    (∃ t, exec (.slaveStage 1 [1#8]) State.reset = .next t) ∧ (∀ m a, Instr.slaveStage 1 [1#8] ≠ .setMode m a) ∧
    (∀ rs a n p, Instr.slaveStage 1 [1#8] ≠ .write rs a n p) ∧
    (∀ rs a n p, Instr.slaveStage 1 [1#8] ≠ .writeText rs a n p) ∧
    (∀ rs a n, Instr.slaveStage 1 [1#8] ≠ .read rs a n) :=
  ⟨next_of_completes (by decide), by simp, by simp, by simp, by simp⟩

/-- A full buffer, one byte received, and a step. -/
def busyState : State := ev (rx [1#8, 2#8, 3#8] 3 4 .slaveReceiving) 0x80#8 0x04#8

theorem test_witness_CursorsStayInBounds : CursorsInBounds busyState ∧ ∃ t, step busyState = .next t :=
  ⟨by decide, next_of_completes (by decide)⟩

theorem test_witness_BuffersStayCanonical : BuffersCanonical busyState ∧ ∃ t, step busyState = .next t :=
  ⟨by decide, next_of_completes (by decide)⟩

theorem test_witness_ValidBytesStayWritten :
    ValidBytesWritten heldState ∧ HeldWellFormed heldState ∧ ValidBytesWritten busyState ∧ HeldWellFormed busyState ∧
    (∃ t, step heldState = .next t) ∧ ∃ t, step busyState = .next t :=
  ⟨by decide, by decide, by decide, by decide, next_of_completes (by decide), next_of_completes (by decide)⟩

theorem test_witness_NoStepFaults : CursorsInBounds busyState := by decide

/-- Each clause of its conclusion is reached: SET_MODE presented and held, a driven code, a presented request. -/
theorem test_witness_RefusalsHaveTwoReasons :
    step (host (tx [] 0 0 .masterTransmitting) 0x0000#16 0 []) = .refused .setModeOutsideAvailable ∧
    step { tx [] 0 0 .masterTransmitting with turns := [.host], openReq := some (.held (.setMode .master 0#7)) } =
      .refused .setModeOutsideAvailable ∧
    step { State.reset with turns := [.issue 6#3] } = .refused (.noSuchWord .reservedCommand) ∧
    step (host State.reset 0x2050#16 1 []) = .refused (.noSuchWord .payloadLength) := ⟨rfl, rfl, rfl, rfl⟩

theorem test_witness_CursorsFitTheirRegisters : State.reset.params.Valid ∧ CursorsInBounds State.reset ∧
    4 ≤ State.reset.params.txCap := ⟨defaultParams_valid, by decide, by decide⟩

/-- `n = TX_CAP`. -/
def writeRun : State :=
  { State.reset with
    requests := [⟨hostHeader 1#3 false .master 0x50#7, 4, [1#8, 2#8, 3#8, 4#8]⟩],
    turns := [.host, .event 0x08#8 9#8, .event 0x18#8 9#8, .event 0x28#8 9#8, .event 0x28#8 9#8, .event 0x28#8 9#8,
      .event 0x28#8 9#8] }

theorem test_witness_MasterWriteSendsEveryByte :
    writeRun.params.Valid ∧ writeRun.openReq = none ∧ writeRun.busState = .available ∧
    ([1#8, 2#8, 3#8, 4#8] : List Byte).length = 4 ∧ 4 ≤ writeRun.params.txCap ∧
    writeRun.requests = [⟨hostHeader 1#3 false .master 0x50#7, 4, [1#8, 2#8, 3#8, 4#8]⟩] ∧
    writeRun.turns = .host :: .event (writeRun.params.status.code .startSent) 9#8 ::
      .event (writeRun.params.status.code .mtSlaAck) 9#8 ::
      List.replicate 4 (.event (writeRun.params.status.code .mtDataAck) 9#8) :=
  ⟨defaultParams_valid, rfl, rfl, rfl, by decide, rfl, rfl⟩

/-- `N = 1` and `N = RX_CAP = 4`. -/
theorem test_witness_ReceiveTieBreak :
    let s := { rx [] 0 1 .initializing with turns := [.event 0x40#8 9#8] }
    let u := { rx [] 0 4 .initializing with
      turns := [.event 0x40#8 9#8, .event 0x50#8 9#8, .event 0x50#8 9#8, .event 0x50#8 9#8] }
    (s.params.Valid ∧ s.rxIndex = 0 ∧ s.rxLen = 0 + 1 ∧ 0 + 1 ≤ s.params.rxCap ∧
      s.turns = .event (s.params.status.code .mrSlaAck) 9#8 ::
        List.replicate 0 (.event (s.params.status.code .mrDataAck) 9#8)) ∧
    (u.params.Valid ∧ u.rxIndex = 0 ∧ u.rxLen = 3 + 1 ∧ 3 + 1 ≤ u.params.rxCap ∧
      u.turns = .event (u.params.status.code .mrSlaAck) 9#8 ::
        List.replicate 3 (.event (u.params.status.code .mrDataAck) 9#8)) :=
  ⟨⟨defaultParams_valid, rfl, rfl, by decide, rfl⟩, defaultParams_valid, rfl, rfl, by decide, rfl⟩

/-- `n = 0` and `n = TX_CAP = 4`. -/
theorem test_witness_RepeatedStartChains :
    let s := { tx [0x20#8, 0xB1#8] 2 2 .masterTransmitting with
      repStart := true, requests := [⟨hostHeader 1#3 false .master 0x20#7, 0, []⟩],
      turns := [.event 0x28#8 9#8, .event 0x10#8 9#8, .host, .event 0x18#8 9#8] }
    let u := { tx [0x20#8, 0xB1#8] 2 2 .masterTransmitting with
      repStart := true, requests := [⟨hostHeader 1#3 false .master 0x20#7, 4, [1#8, 2#8, 3#8, 4#8]⟩],
      turns := [.event 0x28#8 9#8, .event 0x10#8 9#8, .host, .event 0x18#8 9#8, .event 0x28#8 9#8, .event 0x28#8 9#8,
        .event 0x28#8 9#8, .event 0x28#8 9#8] }
    (s.params.Valid ∧ s.openReq = none ∧ s.repStart = true ∧ s.txLen ≤ s.txIndex ∧ ([] : List Byte).length = 0 ∧
      0 ≤ s.params.txCap ∧ s.requests = [⟨hostHeader 1#3 false .master 0x20#7, 0, []⟩] ∧
      s.turns = .event (s.params.status.code .mtDataAck) 9#8 :: .event (s.params.status.code .repStartSent) 9#8 ::
        .host :: .event (s.params.status.code .mtSlaAck) 9#8 ::
        List.replicate 0 (.event (s.params.status.code .mtDataAck) 9#8)) ∧
    (u.params.Valid ∧ u.openReq = none ∧ u.repStart = true ∧ u.txLen ≤ u.txIndex ∧
      ([1#8, 2#8, 3#8, 4#8] : List Byte).length = 4 ∧ 4 ≤ u.params.txCap ∧
      u.requests = [⟨hostHeader 1#3 false .master 0x20#7, 4, [1#8, 2#8, 3#8, 4#8]⟩] ∧
      u.turns = .event (u.params.status.code .mtDataAck) 9#8 :: .event (u.params.status.code .repStartSent) 9#8 ::
        .host :: .event (u.params.status.code .mtSlaAck) 9#8 ::
        List.replicate 4 (.event (u.params.status.code .mtDataAck) 9#8)) :=
  ⟨⟨defaultParams_valid, rfl, rfl, by decide, rfl, by decide, rfl, rfl⟩,
    defaultParams_valid, rfl, rfl, by decide, rfl, by decide, rfl, rfl⟩

/-- `k = RX_CAP = 4`. -/
theorem test_witness_SlaveReceiveRoundTrip :
    let bs : List Byte := [1#8, 2#8, 3#8, 4#8]
    let s := { State.reset with
      turns := [.event 0x60#8 9#8, .event 0x80#8 1#8, .event 0x80#8 2#8, .event 0x80#8 3#8, .event 0x80#8 4#8,
        .event 0xA0#8 9#8] }
    s.params.Valid ∧ bs.length ≤ s.params.rxCap ∧
    s.turns = .event (s.params.status.code .srSlaAck) 9#8 ::
      (bs.map (fun b => .event (s.params.status.code .srDataAck) b) ++ [.event (s.params.status.code .srStop) 9#8]) :=
  ⟨defaultParams_valid, by decide, rfl⟩

end Sys2Proof.Tests
end

section
/-!
PROOFS. The scope's statements (00_scope): the parameters are inputs that no step writes (R5, R7), an agent with nothing
to do does nothing (R6, log 6), and every cursor and length fits its `LEN_W` bits (R5, R97).
-/

namespace Sys2Proof

/-- A valid block's `LEN_W` bits hold the length of a full TX buffer (R5). -/
theorem Params.Valid.txSize_lt {p : Params} (h : p.Valid) : p.txSize < 2 ^ p.lenW :=
  (max_lt_iff.mp h.1).1

/-- A valid block's `LEN_W` bits hold the length of a full RX buffer (R5). -/
theorem Params.Valid.rxCap_lt {p : Params} (h : p.Valid) : p.rxCap < 2 ^ p.lenW :=
  (max_lt_iff.mp h.1).2

end Sys2Proof

namespace Sys2Proof.Safety

open Sys2Proof.Machine

/-! ### The terms of the rules leave the parameters -/

@[simp] theorem driven_params (s : State) (items : List OutItem) (c : Command) :
    (driven s items c).params = s.params := rfl

@[simp] theorem pushed_params (s : State) (c : Command) : (pushed s c).params = s.params := rfl

@[simp] theorem completed_params (s : State) : (completed s).params = s.params := by
  unfold completed; split <;> rfl

@[simp] theorem tail_params (s : State) : (tail s).params = s.params := by
  unfold tail; split <;> simp

@[simp] theorem slavePushed_params (s : State) : (slavePushed s).params = s.params := by
  unfold slavePushed; split <;> rfl

@[simp] theorem received_params (s : State) : (received s).params = s.params := by
  unfold received; split <;> rfl

end Sys2Proof.Safety

namespace Sys2Proof.Machine

open Sys2Proof.Safety

/-! ### No instruction and no step writes the parameters -/

/-- An event leaves the parameters: its rule is made of the terms above. -/
@[simp] theorem eventAfter_params (i : Instr) (s : State) : (eventAfter i s).params = s.params := by
  cases i <;> simp [eventAfter]

/-- A request leaves the parameters, whether it is answered, held, staged or initiated. -/
theorem exec_request_params {i : Instr} {s t : State} (hi : isRequest i = true) (h : exec i s = .next t) :
    t.params = s.params := by
  rcases exec_request_cases hi h with ⟨m, a, -, -, rfl⟩ | ⟨b, rfl, -⟩ | ⟨rfl, -⟩ | ⟨n, p, -, rfl⟩ |
    ⟨rs, a, n, p, -, -, -, rfl⟩ | ⟨rs, a, n, p, -, -, rfl⟩ | ⟨rs, a, n, -, -, -, rfl⟩
  · exact (s.configure_fields m a).1
  · rfl
  · rfl
  · rfl
  · exact (s.initiate_fields _ _ _ _).1
  · exact (s.initiate_fields _ _ _ _).1
  · exact ((s.stageRx n).initiate_fields _ _ _ _).1

/-- Every instruction leaves the parameters. -/
theorem exec_params {i : Instr} {s t : State} (h : exec i s = .next t) : t.params = s.params := by
  rcases exec_cases h with ⟨-, -, rfl⟩ | hi | ⟨-, -, c, rfl⟩
  · exact eventAfter_params i s
  · exact exec_request_params hi h
  · rfl

/-- READ's completion leaves the parameters. -/
theorem readCompletion_params {n : Nat} {s t : State} (h : readCompletion n s = .next t) : t.params = s.params := by
  rcases readCompletion_inv h with ⟨-, rfl⟩ | ⟨-, -, rfl⟩ <;> rfl

/-- Every step leaves the parameters, `rst` included. -/
theorem step_params {s t : State} (h : step s = .next t) : t.params = s.params := by
  rcases step_cases s _ h with ⟨-, ht⟩ | ⟨code, din, ts, -, hx⟩ | ⟨code, ts, -, ⟨i, -, hx⟩ | ⟨e, -, ht⟩⟩ |
    ⟨ts, -, ⟨i, -, hx⟩ | ⟨n, -, hx⟩ | ⟨-, -, ht⟩ | ⟨w, ws, -, -, ⟨i, -, hx⟩ | ⟨e, -, ht⟩⟩⟩ | ⟨ts, -, ht⟩
  · cases ht; rfl
  · exact (exec_params hx).trans rfl
  · exact (exec_params hx).trans rfl
  · cases ht
  · exact (exec_params hx).trans rfl
  · exact (readCompletion_params hx).trans rfl
  · cases ht; rfl
  · exact (exec_params hx).trans rfl
  · cases ht
  · cases ht; rfl

/-! ### Steps in which no agent acts -/

/-- With no turn scheduled the step only lowers the strobe. -/
theorem step_of_no_turn {s : State} (hT : s.turns = []) : step s = .next (s.beginTurn []) := by
  simp only [step, fetch, hT]

/-- At its turn the host does nothing when it has no request open and none to present. -/
theorem step_of_idle_host {s : State} {ts : List Turn} (hT : s.turns = .host :: ts) (hO : s.openReq = none)
    (hR : s.requests = []) : step s = .next (s.beginTurn ts) := by
  simp only [step, fetch, hT, fetchHost, State.beginTurn_openReq, State.beginTurn_requests, hO, hR]

/-- Beginning a turn without taking one only lowers the strobe. -/
theorem State.beginTurn_turns_self (s : State) : s.beginTurn s.turns = { s with cmd := none } := rfl

end Sys2Proof.Machine

namespace Sys2Proof.Scope

open Sys2Proof.Machine Sys2Proof.Safety

/-- Settles O16: each kind of turn runs an instruction, completes a READ, resets the block with its own parameters, or
does nothing, and none of these writes `params`. -/
theorem parametersNeverChange : Obligations.ParametersNeverChange :=
  fun _ _ h => step_params h

/-- Settles O14: with no turn left, or at the idle host's turn, the step is `beginTurn` alone. -/
theorem nothingScheduledNothingHappens : Obligations.NothingScheduledNothingHappens := by
  refine ⟨fun s hT => ?_, fun s ts hT hO hR => step_of_idle_host hT hO hR⟩
  rw [step_of_no_turn hT, ← hT, State.beginTurn_turns_self]

/-- Settles O52: R30 bounds cursors and lengths by the capacities, and R5 bounds the capacities by `2^LEN_W`. -/
theorem cursorsFitTheirRegisters : Obligations.CursorsFitTheirRegisters := by
  intro s hV hC
  obtain ⟨htx, htxLen, hrx, hrxLen⟩ := hC
  have htxCap : s.params.txCap + 1 < 2 ^ s.params.lenW := hV.txSize_lt
  have htxLen' : s.txLen < 2 ^ s.params.lenW := htxLen.trans_lt hV.txSize_lt
  have hrxLen' : s.rxLen < 2 ^ s.params.lenW := hrxLen.trans_lt hV.rxCap_lt
  exact ⟨htx.trans_lt htxLen', htxLen', hrx.trans_lt hrxLen', hrxLen', fun n hn => by omega⟩

end Sys2Proof.Scope
end

section
/-!
PROOFS. The state's statements (10_state): the values of reset (R28), the cursors' bounds (R30), the strobe (R22), the
writers of `state` (R27), of `lastErr` (R13) and of the configuration (R12, R18, R19).
-/

namespace Sys2Proof.Safety

open Sys2Proof.Machine

/-! ### What the terms of the rules leave in the registers -/

/-- Driving a command keeps every register but `cmd` and CTL (R80). -/
@[simp] theorem driven_fields (s : State) (items : List OutItem) (c : Command) :
    (driven s items c).busState = s.busState ∧ (driven s items c).repStart = s.repStart ∧
    (driven s items c).lastErr = s.lastErr ∧ (driven s items c).mode = s.mode ∧
    (driven s items c).addrMatch = s.addrMatch :=
  ⟨rfl, rfl, rfl, rfl, rfl⟩

/-- Sending a byte keeps `state`, `lastErr` and the configuration (R90, R92). -/
@[simp] theorem pushed_fields (s : State) (c : Command) :
    (pushed s c).busState = s.busState ∧ (pushed s c).repStart = s.repStart ∧ (pushed s c).lastErr = s.lastErr ∧
    (pushed s c).mode = s.mode ∧ (pushed s c).addrMatch = s.addrMatch :=
  ⟨rfl, rfl, rfl, rfl, rfl⟩

/-- The completion path keeps `lastErr` and the configuration, and `state` while a repeated start is requested
(R101). -/
@[simp] theorem completed_fields (s : State) :
    (completed s).busState = (if s.repStart = true then s.busState else .available) ∧
    (completed s).repStart = s.repStart ∧ (completed s).lastErr = s.lastErr ∧ (completed s).mode = s.mode ∧
    (completed s).addrMatch = s.addrMatch := by
  unfold completed
  split <;> exact ⟨rfl, rfl, rfl, rfl, rfl⟩

/-- The shared tail keeps `lastErr` and the configuration, and `state` unless it ends the transfer (R101). -/
@[simp] theorem tail_fields (s : State) :
    (tail s).busState = (if s.txIndex < s.txLen ∨ s.repStart = true then s.busState else .available) ∧
    (tail s).repStart = s.repStart ∧ (tail s).lastErr = s.lastErr ∧ (tail s).mode = s.mode ∧
    (tail s).addrMatch = s.addrMatch := by
  unfold tail
  split
  case isTrue h => simp [h]
  case isFalse h => simp [h]

/-- The slave transmitter's push keeps `state`, `lastErr` and the configuration (R92). -/
@[simp] theorem slavePushed_fields (s : State) :
    (slavePushed s).busState = s.busState ∧ (slavePushed s).repStart = s.repStart ∧
    (slavePushed s).lastErr = s.lastErr ∧ (slavePushed s).mode = s.mode ∧
    (slavePushed s).addrMatch = s.addrMatch := by
  unfold slavePushed
  split <;> exact ⟨rfl, rfl, rfl, rfl, rfl⟩

/-- Storing a received byte writes RX and its cursor alone (R94). -/
@[simp] theorem received_fields (s : State) :
    (received s).busState = s.busState ∧ (received s).repStart = s.repStart ∧ (received s).lastErr = s.lastErr ∧
    (received s).mode = s.mode ∧ (received s).addrMatch = s.addrMatch := by
  unfold received
  split <;> exact ⟨rfl, rfl, rfl, rfl, rfl⟩

/-- Storing a received byte puts nothing out (R29). -/
@[simp] theorem received_trace (s : State) : (received s).trace = s.trace := by
  unfold received
  split <;> rfl

/-! ### The terms of the rules keep the cursors in bounds (R30) -/

/-- Driving a command writes no cursor. -/
theorem cursorsInBounds_driven {s : State} (h : CursorsInBounds s) (items : List OutItem) (c : Command) :
    CursorsInBounds (driven s items c) := h

/-- A byte is sent only from below the TX length, so the cursor moves at most to it. -/
theorem cursorsInBounds_pushed {s : State} (h : CursorsInBounds s) (hi : s.txIndex < s.txLen) (c : Command) :
    CursorsInBounds (pushed s c) := by
  obtain ⟨-, htx, hrx⟩ := h
  exact ⟨hi, htx, hrx⟩

/-- The completion path writes no cursor. -/
theorem cursorsInBounds_completed {s : State} (h : CursorsInBounds s) : CursorsInBounds (completed s) := by
  unfold completed
  split <;> exact h

theorem cursorsInBounds_tail {s : State} (h : CursorsInBounds s) : CursorsInBounds (tail s) := by
  unfold tail
  split
  · exact cursorsInBounds_pushed h ‹_› _
  · exact cursorsInBounds_completed h

theorem cursorsInBounds_slavePushed {s : State} (h : CursorsInBounds s) : CursorsInBounds (slavePushed s) := by
  unfold slavePushed
  split
  · exact cursorsInBounds_pushed h ‹_› _
  · exact h

/-- A byte is stored only below the RX length, so the cursor moves at most to it. -/
theorem cursorsInBounds_received {s : State} (h : CursorsInBounds s) : CursorsInBounds (received s) := by
  obtain ⟨htx, htxLen, hrx, hrxLen⟩ := h
  unfold received
  split
  case isTrue hi => exact ⟨htx, htxLen, hi, hrxLen⟩
  case isFalse => exact ⟨htx, htxLen, hrx, hrxLen⟩

/-- TX may be rewound at any time. -/
theorem cursorsInBounds_rewound {s : State} (h : CursorsInBounds s) : CursorsInBounds (s.setTxIndex 0) := by
  obtain ⟨-, htx, hrx⟩ := h
  exact ⟨Nat.zero_le _, htx, hrx⟩

/-- Cursors and lengths that are all 0 are in bounds, so they are after reset (R28). -/
theorem cursorsInBounds_resetWith (p : Params) : CursorsInBounds (State.resetWith p) :=
  ⟨le_rfl, Nat.zero_le _, le_rfl, Nat.zero_le _⟩

/-! ### What a rule puts out, and the strobe it leaves (R22, R80) -/

/-- `t` has put out some items after `s`, and its strobe carries their last command; with no command among them the
strobe is as in `s`. -/
def StrobeFollows (s t : State) : Prop :=
  ∃ items, t.trace = s.trace ++ items ∧ t.cmd = ((lastCommand items).map commandCode).or s.cmd

/-- The last command of items that end with a command is that one. -/
@[simp] theorem lastCommand_append_cmd (items : List OutItem) (c : Command) :
    lastCommand (items ++ [.cmd c]) = some c := by
  induction items with
  | nil => rfl
  | cons x xs ih => simp only [List.cons_append, lastCommand, ih]

/-- Commands have the codes 0 to 5 (R65). -/
theorem commandCode_ne_reserved (c : Command) : commandCode c ≠ 6#3 ∧ commandCode c ≠ 7#3 := by
  cases c <;> decide

/-- With nothing put out the strobe stays. -/
theorem strobeFollows_of_eq {s t : State} (htrace : t.trace = s.trace) (hcmd : t.cmd = s.cmd) : StrobeFollows s t :=
  ⟨[], by simpa using htrace, hcmd⟩

/-- A command driven after some items leaves its code on the strobe. -/
theorem strobeFollows_driven {s u : State} (hu : u.trace = s.trace) (items : List OutItem) (c : Command) :
    StrobeFollows s (driven u items c) :=
  ⟨items ++ [.cmd c], by simp [driven, hu], by simp [driven]⟩

theorem strobeFollows_completed {s u : State} (hu : u.trace = s.trace) : StrobeFollows s (completed u) := by
  unfold completed
  split <;> exact strobeFollows_driven hu _ _

theorem strobeFollows_tail {s u : State} (hu : u.trace = s.trace) : StrobeFollows s (tail u) := by
  unfold tail
  split
  · exact strobeFollows_driven hu _ _
  · exact strobeFollows_completed hu

theorem strobeFollows_slavePushed {s u : State} (hu : u.trace = s.trace) : StrobeFollows s (slavePushed u) := by
  unfold slavePushed
  split <;> exact strobeFollows_driven hu _ _

end Sys2Proof.Safety

namespace Sys2Proof.Machine

open Sys2Proof.Safety

/-! ### What a step runs on -/

/-- `u` is `s` with a turn taken (R52): the strobe is low (R22), DATA and the pending flag are as an event's delivery
leaves them, the open request and the requests as the host's turn leaves them; every other field is that of `s`. -/
def TurnTaken (s u : State) : Prop :=
  ∃ ts din pend open' reqs,
    u = { s with turns := ts, cmd := none, data := din, pending := pend, openReq := open', requests := reqs }

/-- A step that answers a next state takes a turn and then runs an instruction, tries READ's completion or does nothing;
or it asserts `rst`. -/
theorem step_next_cases {s t : State} (h : step s = .next t) :
    (∃ u, TurnTaken s u ∧ ((∃ i, exec i u = .next t) ∨ (∃ n, readCompletion n u = .next t) ∨ t = u)) ∨
    (∃ ts, s.turns = .rst :: ts ∧ t = (s.beginTurn ts).assertReset) := by
  rcases step_cases s _ h with ⟨-, ht⟩ | ⟨code, din, ts, -, hx⟩ | ⟨code, ts, -, ⟨i, -, hx⟩ | ⟨e, -, ht⟩⟩ |
    ⟨ts, -, ⟨i, -, hx⟩ | ⟨n, -, hx⟩ | ⟨-, -, ht⟩ | ⟨w, ws, -, -, ⟨i, -, hx⟩ | ⟨e, -, ht⟩⟩⟩ | ⟨ts, hT, ht⟩
  · exact .inl ⟨_, ⟨_, _, _, _, _, rfl⟩, .inr (.inr (Host.Outcome.next.inj ht))⟩
  · exact .inl ⟨_, ⟨_, _, _, _, _, rfl⟩, .inl ⟨_, hx⟩⟩
  · exact .inl ⟨_, ⟨_, _, _, _, _, rfl⟩, .inl ⟨_, hx⟩⟩
  · cases ht
  · exact .inl ⟨_, ⟨_, _, _, _, _, rfl⟩, .inl ⟨_, hx⟩⟩
  · exact .inl ⟨_, ⟨_, _, _, _, _, rfl⟩, .inr (.inl ⟨_, hx⟩)⟩
  · exact .inl ⟨_, ⟨_, _, _, _, _, rfl⟩, .inr (.inr (Host.Outcome.next.inj ht))⟩
  · exact .inl ⟨_, ⟨_, _, _, _, _, rfl⟩, .inl ⟨_, hx⟩⟩
  · cases ht
  · exact .inr ⟨ts, hT, Host.Outcome.next.inj ht⟩

/-- A step that asserts no `rst` takes a turn and then runs an instruction, tries READ's completion or does nothing. -/
theorem step_next_cases_of_not_rst {s t : State} (h : step s = .next t) (hr : s.turns.head? ≠ some .rst) :
    ∃ u, TurnTaken s u ∧ ((∃ i, exec i u = .next t) ∨ (∃ n, readCompletion n u = .next t) ∨ t = u) := by
  rcases step_next_cases h with hu | ⟨ts, hT, -⟩
  · exact hu
  · exact absurd (by rw [hT]; rfl) hr

/-! ### The cursors stay in bounds (R30) -/

theorem eventAfter_cursorsInBounds (i : Instr) {s : State} (h : CursorsInBounds s) :
    CursorsInBounds (eventAfter i s) := by
  cases i
  case evStartSent => exact cursorsInBounds_tail (cursorsInBounds_rewound h)
  case evRepStartSent => exact cursorsInBounds_rewound (s := s) h
  case evMtSlaAck => exact cursorsInBounds_tail (s := s.setBus .masterTransmitting) h
  case evMtDataAck => exact cursorsInBounds_tail h
  case evMtDataNack => exact cursorsInBounds_completed (s := s.recordError _) h
  case evMrDataAck => exact cursorsInBounds_driven (cursorsInBounds_received h) _ _
  case evMrDataNack => exact cursorsInBounds_completed (cursorsInBounds_received h)
  case evSrDataAck | evSrGcallDataAck => exact cursorsInBounds_driven (cursorsInBounds_received h) _ _
  case evSrSlaAck | evSrGcallAck =>
    obtain ⟨htx, htxLen, -, -⟩ := h
    exact ⟨htx, htxLen, Nat.zero_le _, le_rfl⟩
  case evStSlaAck =>
    exact cursorsInBounds_slavePushed (s := (s.setTxIndex 0).setBus _) (cursorsInBounds_rewound (s := s) h)
  case evStDataAck => exact cursorsInBounds_slavePushed h
  all_goals exact h

/-- A transfer of at most `TX_CAP` bytes stages at most `TX_SIZE` bytes, the address byte included; the cursor stands
on one of the first two (R93, R136). -/
theorem State.initiate_cursorsInBounds {s : State} (hrx : s.rxIndex ≤ s.rxLen ∧ s.rxLen ≤ s.params.rxCap) {n : Nat}
    (hn : n ≤ s.params.txCap) (b0 : Byte) (p : List Byte) (rs : Bool) :
    CursorsInBounds (s.initiate b0 p n rs) := by
  obtain ⟨hparams, -, -, -, -, htxLen, htxIndex, -, hrxIndex, hrxLen, -⟩ := s.initiate_fields b0 p n rs
  refine ⟨by omega, ?_, ?_, ?_⟩
  · rw [htxLen, hparams]; exact Nat.succ_le_succ hn
  · rw [hrxIndex, hrxLen]; exact hrx.1
  · rw [hrxLen, hparams]; exact hrx.2

theorem exec_request_cursorsInBounds {i : Instr} {s t : State} (hi : isRequest i = true) (h : exec i s = .next t)
    (hs : CursorsInBounds s) : CursorsInBounds t := by
  have ⟨_, _, hrx⟩ := hs
  rcases exec_request_cases hi h with ⟨m, a, -, -, rfl⟩ | ⟨b, rfl, -⟩ | ⟨rfl, -⟩ | ⟨n, p, -, rfl⟩ |
    ⟨rs, a, n, p, -, hn, -, rfl⟩ | ⟨rs, a, n, p, -, -, rfl⟩ | ⟨rs, a, n, -, hn, -, rfl⟩
  · cases m <;> exact cursorsInBounds_resetWith s.params
  · exact hs
  · exact hs
  · exact ⟨Nat.zero_le _, (Nat.min_le_right _ _).trans (Nat.le_succ _), hrx⟩
  · exact State.initiate_cursorsInBounds hrx hn _ _ _
  · exact State.initiate_cursorsInBounds hrx (Nat.min_le_right _ _) _ _ _
  · exact State.initiate_cursorsInBounds (s := s.stageRx n) ⟨Nat.zero_le _, hn⟩ (Nat.zero_le _) _ _ _

theorem exec_cursorsInBounds {i : Instr} {s t : State} (h : exec i s = .next t) (hs : CursorsInBounds s) :
    CursorsInBounds t := by
  rcases exec_cases h with ⟨-, -, rfl⟩ | hi | ⟨-, -, c, rfl⟩
  · exact eventAfter_cursorsInBounds i hs
  · exact exec_request_cursorsInBounds hi h hs
  · exact hs

theorem readCompletion_cursorsInBounds {n : Nat} {s t : State} (h : readCompletion n s = .next t)
    (hs : CursorsInBounds s) : CursorsInBounds t := by
  rcases readCompletion_inv h with ⟨-, rfl⟩ | ⟨-, -, rfl⟩ <;> exact hs

/-! ### The strobe follows the output (R22, R80) -/

theorem eventAfter_strobeFollows (i : Instr) (s : State) : StrobeFollows s (eventAfter i s) := by
  cases i
  case evStartSent | evMtSlaAck | evMtDataAck => exact strobeFollows_tail rfl
  case evStSlaAck | evStDataAck => exact strobeFollows_slavePushed rfl
  case evMtDataNack => exact strobeFollows_completed rfl
  case evMrDataNack => exact strobeFollows_completed (received_trace s)
  case evMrDataAck | evSrDataAck | evSrGcallDataAck => exact strobeFollows_driven (received_trace s) _ _
  case evMtSlaNack | evMrSlaNack | evArbLost | evMrSlaAck | evSrSlaAck | evSrGcallAck | evSrStop | evStDataNack |
      evUnrecognized =>
    exact strobeFollows_driven rfl _ _
  all_goals exact strobeFollows_of_eq rfl rfl

theorem State.configure_strobeFollows (s : State) (m : Mode) (a : BitVec 7) : StrobeFollows s (s.configure m a) := by
  cases m with
  | master => exact ⟨[.addr 0x00#8, .arm], by simp [State.configure, State.arm, State.writeAddr], rfl⟩
  | slave =>
    exact ⟨[.addr (ownAddress a), .cmd .enableSlaveReset],
      by simp [State.configure, State.issue, State.writeAddr], rfl⟩

theorem State.initiate_strobeFollows (s : State) (b0 : Byte) (p : List Byte) (n : Nat) (rs : Bool) :
    StrobeFollows s (s.initiate b0 p n rs) := by
  rcases s.initiate_output b0 p n rs with ⟨htrace, hcmd⟩ | ⟨htrace, hcmd⟩
  · exact ⟨_, htrace, hcmd⟩
  · exact ⟨_, htrace, hcmd⟩

theorem exec_request_strobeFollows {i : Instr} {s t : State} (hi : isRequest i = true) (h : exec i s = .next t) :
    StrobeFollows s t := by
  rcases exec_request_cases hi h with ⟨m, a, -, -, rfl⟩ | ⟨b, rfl, -⟩ | ⟨rfl, -⟩ | ⟨n, p, -, rfl⟩ |
    ⟨rs, a, n, p, -, -, -, rfl⟩ | ⟨rs, a, n, p, -, -, rfl⟩ | ⟨rs, a, n, -, -, -, rfl⟩
  · exact s.configure_strobeFollows m a
  · exact strobeFollows_of_eq rfl rfl
  · exact strobeFollows_of_eq rfl rfl
  · exact strobeFollows_of_eq rfl rfl
  · exact s.initiate_strobeFollows _ _ _ _
  · exact s.initiate_strobeFollows _ _ _ _
  · exact (s.stageRx n).initiate_strobeFollows _ _ _ _

theorem exec_strobeFollows {i : Instr} {s t : State} (h : exec i s = .next t) : StrobeFollows s t := by
  rcases exec_cases h with ⟨-, -, rfl⟩ | hi | ⟨-, -, c, rfl⟩
  · exact eventAfter_strobeFollows i s
  · exact exec_request_strobeFollows hi h
  · rw [State.issue_eq_driven]; exact strobeFollows_driven rfl _ _

theorem readCompletion_strobeFollows {n : Nat} {s t : State} (h : readCompletion n s = .next t) :
    StrobeFollows s t := by
  rcases readCompletion_inv h with ⟨-, rfl⟩ | ⟨-, -, rfl⟩ <;> exact strobeFollows_of_eq rfl rfl

/-! ### The writers of `state` (R27) -/

theorem eventAfter_busState {i : Instr} (hi : isEvent i = true) (s : State) :
    (eventAfter i s).busState = busAfter i s := by
  cases i <;> simp only [isEvent, Bool.false_eq_true] at hi
  case evStartSent | evMtSlaAck | evMtDataAck => exact (tail_fields _).1
  case evMtDataNack => exact (completed_fields _).1
  case evMrDataNack => simp [eventAfter, busAfter]
  case evStSlaAck | evStDataAck => exact (slavePushed_fields _).1
  case evMrDataAck | evSrDataAck | evSrGcallDataAck => exact (received_fields s).1
  all_goals rfl

/-- Initiate leaves `state` Initializing on both of its paths (R136). -/
theorem State.initiate_busState (s : State) (b0 : Byte) (p : List Byte) (n : Nat) (rs : Bool) :
    (s.initiate b0 p n rs).busState = .initializing := by
  obtain ⟨-, hbus, -⟩ := s.initiate_fields b0 p n rs
  exact hbus

theorem exec_request_busState {i : Instr} {s t : State} (hi : isRequest i = true) (h : exec i s = .next t) :
    t.busState = busAfter i s := by
  cases i <;> simp only [isRequest, Bool.false_eq_true] at hi
  case setMode m a =>
    obtain ⟨-, rfl⟩ := exec_setMode_inv h
    cases m <;> rfl
  case write rs a n p =>
    rcases exec_write_inv h with ⟨hn, rfl⟩ | ⟨-, hr, rfl⟩ | ⟨hn, hr, rfl⟩
    · exact (if_neg fun hc => absurd hc.1 (Nat.not_le.mpr hn)).symm
    · exact (if_neg fun hc => hr hc.2).symm
    · exact (s.initiate_busState _ _ _ _).trans (if_pos ⟨hn, hr⟩).symm
  case writeText rs a n p =>
    rcases exec_writeText_inv h with ⟨hr, rfl⟩ | ⟨hr, rfl⟩
    · exact (if_neg hr).symm
    · exact (s.initiate_busState _ _ _ _).trans (if_pos hr).symm
  case slaveStage n p => rcases exec_slaveStage_inv h with ⟨-, rfl⟩ | ⟨-, rfl⟩ <;> rfl
  case read rs a n =>
    rcases exec_read_inv h with ⟨hn, rfl⟩ | ⟨-, hr, rfl⟩ | ⟨hn, hr, rfl⟩
    · exact (if_neg fun hc => absurd hc.1 (Nat.not_le.mpr hn)).symm
    · exact (if_neg fun hc => hr hc.2).symm
    · exact ((s.stageRx n).initiate_busState _ _ _ _).trans (if_pos ⟨hn, hr⟩).symm
  case isReady | isAvailable | hostReserved => cases h; rfl

theorem exec_busState {i : Instr} {s t : State} (h : exec i s = .next t) : t.busState = busAfter i s := by
  rcases exec_cases h with ⟨hi, -, rfl⟩ | hi | ⟨hev, hreq, c, rfl⟩
  · exact eventAfter_busState hi s
  · exact exec_request_busState hi h
  · cases i <;> simp only [isEvent, isRequest, Bool.true_eq_false] at hev hreq <;> rfl

theorem readCompletion_busState {n : Nat} {s t : State} (h : readCompletion n s = .next t) :
    t.busState = s.busState := by
  rcases readCompletion_inv h with ⟨-, rfl⟩ | ⟨-, -, rfl⟩ <;> rfl

/-! ### The writers of `lastErr` (R13, R161) -/

/-- An event records the error of R161's table, if it has one, and else keeps `lastErr`. -/
theorem eventAfter_lastErr (i : Instr) (s : State) :
    (eventAfter i s).lastErr = (errorRecorded i s).or s.lastErr := by
  cases i <;> simp [eventAfter, errorRecorded]

/-- Initiate records no error (R136). -/
theorem State.initiate_lastErr (s : State) (b0 : Byte) (p : List Byte) (n : Nat) (rs : Bool) :
    (s.initiate b0 p n rs).lastErr = s.lastErr := by
  obtain ⟨-, -, -, hlastErr, -⟩ := s.initiate_fields b0 p n rs
  exact hlastErr

/-- No request writes `lastErr` (R162). -/
theorem exec_request_lastErr {i : Instr} {s t : State} (hi : isRequest i = true) (h : exec i s = .next t) :
    t.lastErr = s.lastErr := by
  rcases exec_request_cases hi h with ⟨m, a, -, -, rfl⟩ | ⟨b, rfl, -⟩ | ⟨rfl, -⟩ | ⟨n, p, -, rfl⟩ |
    ⟨rs, a, n, p, -, -, -, rfl⟩ | ⟨rs, a, n, p, -, -, rfl⟩ | ⟨rs, a, n, -, -, -, rfl⟩
  · cases m <;> rfl
  · rfl
  · rfl
  · rfl
  · exact s.initiate_lastErr _ _ _ _
  · exact s.initiate_lastErr _ _ _ _
  · exact (s.stageRx n).initiate_lastErr _ _ _ _

/-- A code in `lastErr` is replaced or kept by every instruction, never cleared. -/
theorem exec_lastErr_ne_none {i : Instr} {s t : State} (h : exec i s = .next t) (hs : s.lastErr ≠ none) :
    t.lastErr ≠ none := by
  rcases exec_cases h with ⟨-, -, rfl⟩ | hi | ⟨-, -, c, rfl⟩
  · rw [eventAfter_lastErr]
    exact fun hn => hs (Option.or_eq_none_iff.mp hn).2
  · rwa [exec_request_lastErr hi h]
  · exact hs

theorem readCompletion_lastErr {n : Nat} {s t : State} (h : readCompletion n s = .next t) :
    t.lastErr = s.lastErr := by
  rcases readCompletion_inv h with ⟨-, rfl⟩ | ⟨-, -, rfl⟩ <;> rfl

/-! ### The writers of the configuration (R12, R18, R19) -/

/-- An event writes neither `mode` nor ADDRMATCH nor `repStart`. -/
theorem eventAfter_configuration (i : Instr) (s : State) :
    (eventAfter i s).mode = s.mode ∧ (eventAfter i s).addrMatch = s.addrMatch ∧
    (eventAfter i s).repStart = s.repStart := by
  cases i <;> simp [eventAfter]

/-- Initiate writes `repStart` of the configuration alone (R136). -/
theorem State.initiate_configuration (s : State) (b0 : Byte) (p : List Byte) (n : Nat) (rs : Bool) :
    (s.initiate b0 p n rs).mode = s.mode ∧ (s.initiate b0 p n rs).addrMatch = s.addrMatch := by
  obtain ⟨-, -, -, -, -, -, -, -, -, -, hmode, haddr, -⟩ := s.initiate_fields b0 p n rs
  exact ⟨hmode, haddr⟩

/-- A request other than SET_MODE writes neither `mode` nor ADDRMATCH. -/
theorem exec_request_mode_addrMatch {i : Instr} {s t : State} (hi : isRequest i = true) (h : exec i s = .next t)
    (hset : ∀ m a, i ≠ .setMode m a) : t.mode = s.mode ∧ t.addrMatch = s.addrMatch := by
  rcases exec_request_cases hi h with ⟨m, a, rfl, -⟩ | ⟨b, rfl, -⟩ | ⟨rfl, -⟩ | ⟨n, p, -, rfl⟩ |
    ⟨rs, a, n, p, -, -, -, rfl⟩ | ⟨rs, a, n, p, -, -, rfl⟩ | ⟨rs, a, n, -, -, -, rfl⟩
  · exact absurd rfl (hset m a)
  · exact ⟨rfl, rfl⟩
  · exact ⟨rfl, rfl⟩
  · exact ⟨rfl, rfl⟩
  · exact s.initiate_configuration _ _ _ _
  · exact s.initiate_configuration _ _ _ _
  · exact (s.stageRx n).initiate_configuration _ _ _ _

/-- A request that is neither SET_MODE nor one that initiates a transfer keeps `repStart`. -/
theorem exec_request_repStart {i : Instr} {s t : State} (hi : isRequest i = true) (h : exec i s = .next t)
    (hset : ∀ m a, i ≠ .setMode m a) (hwrite : ∀ rs a n p, i ≠ .write rs a n p)
    (htext : ∀ rs a n p, i ≠ .writeText rs a n p) (hread : ∀ rs a n, i ≠ .read rs a n) :
    t.repStart = s.repStart := by
  rcases exec_request_cases hi h with ⟨m, a, rfl, -⟩ | ⟨b, rfl, -⟩ | ⟨rfl, -⟩ | ⟨n, p, -, rfl⟩ |
    ⟨rs, a, n, p, rfl, -⟩ | ⟨rs, a, n, p, rfl, -⟩ | ⟨rs, a, n, rfl, -⟩
  · exact absurd rfl (hset m a)
  · rfl
  · rfl
  · rfl
  · exact absurd rfl (hwrite rs a n p)
  · exact absurd rfl (htext rs a n p)
  · exact absurd rfl (hread rs a n)

end Sys2Proof.Machine

namespace Sys2Proof.StateRules

open Sys2Proof.Machine Sys2Proof.Safety

/-- Settles O47: a turn is taken without touching a cursor, and every instruction, READ's completion and `rst` keep the
bounds. -/
theorem cursorsStayInBounds : Obligations.CursorsStayInBounds := by
  intro s t hs h
  rcases step_next_cases h with ⟨u, ⟨_, _, _, _, _, rfl⟩, ⟨i, hx⟩ | ⟨n, hx⟩ | rfl⟩ | ⟨ts, -, rfl⟩
  · exact exec_cursorsInBounds hx hs
  · exact readCompletion_cursorsInBounds hx hs
  · exact hs
  · exact cursorsInBounds_resetWith s.params

/-- Settles O19: a turn is taken with the strobe low, whatever it runs makes the strobe follow the output, and no
command has the code 6 or 7. -/
theorem strobeCarriesTheStepsCommand : Obligations.StrobeCarriesTheStepsCommand := by
  intro s t h hr
  obtain ⟨u, ⟨_, _, _, _, _, hu⟩, hrun⟩ := step_next_cases_of_not_rst h hr
  have hfollows : StrobeFollows u t := by
    rcases hrun with ⟨i, hx⟩ | ⟨n, hx⟩ | rfl
    · exact exec_strobeFollows hx
    · exact readCompletion_strobeFollows hx
    · exact strobeFollows_of_eq rfl rfl
  obtain ⟨items, htrace, hcmd⟩ := hfollows
  subst hu
  simp only [Option.or_none] at hcmd
  refine ⟨items, htrace, hcmd, ?_⟩
  rw [hcmd]
  cases lastCommand items with
  | none => simp
  | some c => simpa using commandCode_ne_reserved c

/-- Settles O43: each event's rule ends in a term of known `state`, each request's cases follow its row, and a command
writes none. -/
theorem busStateFollowsTheTable : Obligations.BusStateFollowsTheTable :=
  ⟨fun _ _ _ h => exec_busState h, fun _ _ _ h => readCompletion_busState h⟩

/-- Settles O45: without `rst` a step takes a turn, which leaves `lastErr`, and then records a code or keeps the old
one. -/
theorem lastErrIsSticky : Obligations.LastErrIsSticky := by
  intro s t h hr hs
  obtain ⟨u, ⟨_, _, _, _, _, rfl⟩, ⟨i, hx⟩ | ⟨n, hx⟩ | rfl⟩ := step_next_cases_of_not_rst h hr
  · exact exec_lastErr_ne_none hx hs
  · rwa [readCompletion_lastErr hx]
  · exact hs

/-- Settles O46: events and commands write none of the three registers, and of the requests only those the rules
name. -/
theorem configurationWriters : Obligations.ConfigurationWriters := by
  intro i s t h
  rcases exec_cases h with ⟨-, -, rfl⟩ | hi | ⟨-, -, c, rfl⟩
  · obtain ⟨hmode, haddr, hrep⟩ := eventAfter_configuration i s
    exact ⟨fun _ => ⟨hmode, haddr⟩, fun _ _ _ _ => hrep⟩
  · exact ⟨exec_request_mode_addrMatch hi h, exec_request_repStart hi h⟩
  · exact ⟨fun _ => ⟨rfl, rfl⟩, fun _ _ _ _ => rfl⟩

/-- Settles O1: the reset state is a literal of R28's values, and nothing is written in an empty buffer. -/
theorem resetGivesTheSpecsValues : Obligations.ResetGivesTheSpecsValues :=
  fun _ => ⟨rfl, rfl, rfl, rfl, rfl, rfl, rfl, rfl, rfl, rfl, rfl, rfl, rfl, rfl, rfl,
    fun i => ⟨Memory.read?_nil i, Memory.read?_nil i⟩⟩

/-- Settles O3: all cursors and lengths are 0, so no byte is valid yet; both buffers are empty; no request is held. -/
theorem invariantsHoldAtReset : Obligations.InvariantsHoldAtReset :=
  fun p => ⟨cursorsInBounds_resetWith p, State.resetWith_wf p,
    ⟨fun i hi => absurd hi (Nat.not_lt_zero i), fun j hj => absurd hj (Nat.not_lt_zero j)⟩, rfl⟩

end Sys2Proof.StateRules
end

section
/-!
PROOFS. The memory's statements (20_memory): what one step may put out (R51), what a step runs (R52), the canonical form
of the buffers (R40, R45), what the handler and the requests leave unchanged (R42), and the faults outside a buffer
(R45).
-/

namespace Sys2Proof.Safety

open Sys2Proof.Machine

/-! ### What the terms of the rules leave of TX, the host and the inputs (R42, R169) -/

/-- `t` has the TX bytes and their length, the host and the inputs of `s`. -/
def KeepsTxAndHost (s t : State) : Prop :=
  t.txBuf = s.txBuf ∧ t.txLen = s.txLen ∧ t.resets = s.resets ∧ SameHost s t

theorem KeepsTxAndHost.refl (s : State) : KeepsTxAndHost s s := ⟨rfl, rfl, rfl, rfl, rfl, rfl, rfl⟩

theorem KeepsTxAndHost.trans {s t u : State} (hst : KeepsTxAndHost s t) (htu : KeepsTxAndHost t u) :
    KeepsTxAndHost s u := by
  obtain ⟨hbuf, hlen, hresets, hopen, hreplies, hrequests, hturns⟩ := hst
  obtain ⟨hbuf', hlen', hresets', hopen', hreplies', hrequests', hturns'⟩ := htu
  exact ⟨hbuf'.trans hbuf, hlen'.trans hlen, hresets'.trans hresets, hopen'.trans hopen, hreplies'.trans hreplies,
    hrequests'.trans hrequests, hturns'.trans hturns⟩

/-- The completion path touches neither TX nor the host (R101). -/
theorem keepsTxAndHost_completed (s : State) : KeepsTxAndHost s (completed s) := by
  unfold completed
  split <;> exact .refl s

/-- The shared tail reads TX and moves its cursor only (R101). -/
theorem keepsTxAndHost_tail (s : State) : KeepsTxAndHost s (tail s) := by
  unfold tail
  split
  · exact .refl s
  · exact keepsTxAndHost_completed s

/-- The slave transmitter's push reads TX and moves its cursor only (R92). -/
theorem keepsTxAndHost_slavePushed (s : State) : KeepsTxAndHost s (slavePushed s) := by
  unfold slavePushed
  split <;> exact .refl s

/-- A received byte goes to RX (R94). -/
theorem keepsTxAndHost_received (s : State) : KeepsTxAndHost s (received s) := by
  unfold received
  split <;> exact .refl s

/-! ### How the terms of the rules move the TX cursor (R90, R92) -/

/-- The TX cursor of `t` is that of `s` or the next one. -/
def TxCursorAdvances (s t : State) : Prop := t.txIndex = s.txIndex ∨ t.txIndex = s.txIndex + 1

theorem completed_txIndex (s : State) : (completed s).txIndex = s.txIndex := by
  unfold completed
  split <;> rfl

theorem received_txIndex (s : State) : (received s).txIndex = s.txIndex := by
  unfold received
  split <;> rfl

theorem txCursorAdvances_tail (s : State) : TxCursorAdvances s (tail s) := by
  unfold tail
  split
  · exact .inr rfl
  · exact .inl (completed_txIndex s)

theorem txCursorAdvances_slavePushed (s : State) : TxCursorAdvances s (slavePushed s) := by
  unfold slavePushed
  split
  · exact .inr rfl
  · exact .inl rfl

/-! ### What the terms of the rules leave of RX (R42) -/

/-- `t` has the RX bytes, the RX cursor and the RX length of `s`. -/
def SameRx (s t : State) : Prop := t.rxBuf = s.rxBuf ∧ t.rxIndex = s.rxIndex ∧ t.rxLen = s.rxLen

theorem sameRx_completed (s : State) : SameRx s (completed s) := by
  unfold completed
  split <;> exact ⟨rfl, rfl, rfl⟩

theorem sameRx_tail (s : State) : SameRx s (tail s) := by
  unfold tail
  split
  · exact ⟨rfl, rfl, rfl⟩
  · exact sameRx_completed s

theorem sameRx_slavePushed (s : State) : SameRx s (slavePushed s) := by
  unfold slavePushed
  split <;> exact ⟨rfl, rfl, rfl⟩

/-- The completion path writes no DATA (R101). -/
theorem completed_data (s : State) : (completed s).data = s.data := by
  unfold completed
  split <;> rfl

/-- Storing a received byte reads DATA and leaves it (R94, R20). -/
theorem received_data (s : State) : (received s).data = s.data := by
  unfold received
  split <;> rfl

/-- Storing a received byte keeps the RX length and moves the RX cursor by at most one (R94). -/
theorem received_rxCursor (s : State) :
    (received s).rxLen = s.rxLen ∧ ((received s).rxIndex = s.rxIndex ∨ (received s).rxIndex = s.rxIndex + 1) := by
  unfold received
  split
  · exact ⟨rfl, .inr rfl⟩
  · exact ⟨rfl, .inl rfl⟩

/-- A received byte is stored at the RX cursor and nowhere else (R94). -/
theorem received_rxAt_of_ne (s : State) {a : Nat} (ha : a ≠ s.rxIndex) : (received s).rxAt a = s.rxAt a := by
  unfold received
  split
  · simp only [State.rxAt, Memory.read?_write, if_neg ha.symm]
  · rfl

/-- A byte stored inside `rxBuf` keeps its canonical form (R45). -/
theorem received_rxBuf_wf {s : State} (h : Memory.wf s.params.rxCap s.rxBuf = true) (hi : rxCursorInside s) :
    Memory.wf s.params.rxCap (received s).rxBuf = true := by
  unfold received
  split
  case isTrue hroom => exact Memory.wf_write _ _ _ _ h (hi hroom)
  case isFalse => exact h

/-! ### What one rule puts out (R51) -/

/-- `t` has put out, after `s`, what one step may. -/
def PutsOutOneStep (s t : State) : Prop := ∃ items, t.trace = s.trace ++ items ∧ oneStepOutput items = true

theorem putsOutOneStep_of_eq {s t : State} (htrace : t.trace = s.trace) : PutsOutOneStep s t :=
  ⟨[], by rw [htrace, List.append_nil], rfl⟩

/-- A command may be driven after the items that go with it. -/
theorem putsOutOneStep_driven {s u : State} (hu : u.trace = s.trace) {items : List OutItem} {c : Command}
    (ho : oneStepOutput (items ++ [.cmd c]) = true) : PutsOutOneStep s (driven u items c) :=
  ⟨items ++ [.cmd c], by simp only [driven, hu, List.append_assoc], ho⟩

theorem putsOutOneStep_completed {s u : State} (hu : u.trace = s.trace) : PutsOutOneStep s (completed u) := by
  unfold completed
  split <;> exact putsOutOneStep_driven hu rfl

theorem putsOutOneStep_tail {s u : State} (hu : u.trace = s.trace) : PutsOutOneStep s (tail u) := by
  unfold tail
  split
  · exact putsOutOneStep_driven hu rfl
  · exact putsOutOneStep_completed hu

theorem putsOutOneStep_slavePushed {s u : State} (hu : u.trace = s.trace) : PutsOutOneStep s (slavePushed u) := by
  unfold slavePushed
  split <;> exact putsOutOneStep_driven hu rfl

end Sys2Proof.Safety

namespace Sys2Proof.Machine

open Sys2Proof.Safety

/-! ### What a buffer byte depends on -/

/-- TX bytes depend on `txBuf` and on the free values of the last reset alone (R40, U2). -/
theorem State.txAt_congr {s t : State} {a : Nat} (hbuf : Memory.read? t.txBuf a = Memory.read? s.txBuf a)
    (hresets : t.resets = s.resets) : t.txAt a = s.txAt a := by
  rw [State.txAt, State.txAt, hbuf, hresets]

/-- RX bytes depend on `rxBuf` and on the free values of the last reset alone (R40, U2). -/
theorem State.rxAt_congr {s t : State} (hbuf : t.rxBuf = s.rxBuf) (hresets : t.resets = s.resets) (a : Nat) :
    t.rxAt a = s.rxAt a := by
  rw [State.rxAt, State.rxAt, hbuf, hresets]

/-! ### What an event leaves of the buffers, the host and the inputs (R42, R169) -/

/-- No event writes TX, the host or the inputs. -/
theorem eventAfter_keepsTxAndHost (i : Instr) (s : State) : KeepsTxAndHost s (eventAfter i s) := by
  cases i
  case evStartSent => exact keepsTxAndHost_tail (s.setTxIndex 0)
  case evMtSlaAck => exact keepsTxAndHost_tail (s.setBus .masterTransmitting)
  case evMtDataAck => exact keepsTxAndHost_tail s
  case evStSlaAck => exact keepsTxAndHost_slavePushed ((s.setTxIndex 0).setBus .slaveTransmitting)
  case evStDataAck => exact keepsTxAndHost_slavePushed s
  case evMtDataNack => exact keepsTxAndHost_completed (s.recordError _)
  case evMrDataAck | evSrDataAck | evSrGcallDataAck => exact keepsTxAndHost_received s
  case evMrDataNack => exact (keepsTxAndHost_received s).trans (keepsTxAndHost_completed _)
  all_goals exact .refl s

/-- An event leaves the TX cursor, moves it on by one, or rewinds it and may then send byte 0. -/
theorem eventAfter_txIndex (i : Instr) (s : State) :
    TxCursorAdvances s (eventAfter i s) ∨ TxCursorAdvances (s.setTxIndex 0) (eventAfter i s) := by
  cases i
  case evStartSent => exact .inr (txCursorAdvances_tail _)
  case evStSlaAck => exact .inr (txCursorAdvances_slavePushed ((s.setTxIndex 0).setBus .slaveTransmitting))
  case evRepStartSent => exact .inr (.inl rfl)
  case evMtSlaAck => exact .inl (txCursorAdvances_tail (s.setBus .masterTransmitting))
  case evMtDataAck => exact .inl (txCursorAdvances_tail s)
  case evStDataAck => exact .inl (txCursorAdvances_slavePushed s)
  case evMtDataNack => exact .inl (.inl (completed_txIndex (s.recordError _)))
  case evMrDataAck | evSrDataAck | evSrGcallDataAck => exact .inl (.inl (received_txIndex s))
  case evMrDataNack => exact .inl (.inl ((completed_txIndex _).trans (received_txIndex s)))
  all_goals exact .inl (.inl rfl)

/-- A receive event does to RX what storing DATA does, and leaves DATA (R94, R108, R109, R125). -/
theorem eventAfter_of_receive {i : Instr} (hi : isReceive i = true) (s : State) :
    SameRx (received s) (eventAfter i s) ∧ (eventAfter i s).data = s.data := by
  cases i <;> simp only [isReceive, Bool.false_eq_true] at hi
  case evMrDataNack => exact ⟨sameRx_completed _, (completed_data _).trans (received_data s)⟩
  all_goals exact ⟨⟨rfl, rfl, rfl⟩, received_data s⟩

/-- A receive event completes only with its cursor inside `rxBuf` (R45). -/
theorem eventInside_of_receive {i : Instr} {s : State} (hi : isReceive i = true) (h : eventInside i s) :
    rxCursorInside s := by
  cases i <;> simp only [isReceive, Bool.false_eq_true] at hi <;> exact h

/-- An event that is neither a receive event nor an address match as receiver leaves RX. -/
theorem eventAfter_sameRx {i : Instr} (hi : isReceive i = false) (hsla : i ≠ .evSrSlaAck) (hgcall : i ≠ .evSrGcallAck)
    (s : State) : SameRx s (eventAfter i s) := by
  cases i
  case evSrSlaAck => exact absurd rfl hsla
  case evSrGcallAck => exact absurd rfl hgcall
  case evMrDataAck | evMrDataNack | evSrDataAck | evSrGcallDataAck => cases hi
  case evStartSent => exact sameRx_tail (s.setTxIndex 0)
  case evMtSlaAck => exact sameRx_tail (s.setBus .masterTransmitting)
  case evMtDataAck => exact sameRx_tail s
  case evStSlaAck => exact sameRx_slavePushed ((s.setTxIndex 0).setBus .slaveTransmitting)
  case evStDataAck => exact sameRx_slavePushed s
  case evMtDataNack => exact sameRx_completed (s.recordError _)
  all_goals exact ⟨rfl, rfl, rfl⟩

/-- Only a receive event writes an RX byte: an address match as receiver rewinds RX without clearing it (R124). -/
theorem eventAfter_rxBuf {i : Instr} (hi : isReceive i = false) (s : State) : (eventAfter i s).rxBuf = s.rxBuf := by
  by_cases hsla : i = .evSrSlaAck
  · subst hsla; rfl
  · by_cases hgcall : i = .evSrGcallAck
    · subst hgcall; rfl
    · exact (eventAfter_sameRx hi hsla hgcall s).1

/-- No event moves an RX byte off the RX cursor. -/
theorem eventAfter_rxAt_of_ne (i : Instr) (s : State) {a : Nat} (ha : a ≠ s.rxIndex) :
    (eventAfter i s).rxAt a = s.rxAt a := by
  obtain ⟨-, -, hresets, -⟩ := eventAfter_keepsTxAndHost i s
  cases hi : isReceive i with
  | false => exact State.rxAt_congr (eventAfter_rxBuf hi s) hresets a
  | true =>
    obtain ⟨⟨hbuf, -⟩, -⟩ := eventAfter_of_receive hi s
    obtain ⟨-, -, hresets', -⟩ := keepsTxAndHost_received s
    exact (State.rxAt_congr hbuf (hresets.trans hresets'.symm) a).trans (received_rxAt_of_ne s ha)

/-- Except on an address match as receiver the RX length stays and the RX cursor moves by at most one. -/
theorem eventAfter_rxCursor {i : Instr} (hsla : i ≠ .evSrSlaAck) (hgcall : i ≠ .evSrGcallAck) (s : State) :
    (eventAfter i s).rxLen = s.rxLen ∧
    ((eventAfter i s).rxIndex = s.rxIndex ∨ (eventAfter i s).rxIndex = s.rxIndex + 1) := by
  cases hi : isReceive i with
  | false =>
    obtain ⟨-, hindex, hlen⟩ := eventAfter_sameRx hi hsla hgcall s
    exact ⟨hlen, .inl hindex⟩
  | true =>
    obtain ⟨⟨-, hindex, hlen⟩, -⟩ := eventAfter_of_receive hi s
    rw [hindex, hlen]
    exact received_rxCursor s

/-! ### What a request leaves of the buffers and of DATA (R42, R136, R140) -/

/-- Initiate leaves RX, the requests, the turns and the free values (R136). -/
theorem State.initiate_rx (s : State) (b0 : Byte) (p : List Byte) (n : Nat) (rs : Bool) :
    (s.initiate b0 p n rs).rxBuf = s.rxBuf ∧ (s.initiate b0 p n rs).resets = s.resets ∧
    (s.initiate b0 p n rs).requests = s.requests ∧ (s.initiate b0 p n rs).turns = s.turns := by
  obtain ⟨-, -, -, -, -, -, -, hrxBuf, -, -, -, -, -, hrequests, hturns, hresets, -⟩ := s.initiate_fields b0 p n rs
  exact ⟨hrxBuf, hresets, hrequests, hturns⟩

/-- A staged transfer of `n` bytes fills at most the first `n + 1` bytes of TX (R93). -/
theorem stagedBytes_length_le (b0 : Byte) (p : List Byte) (n : Nat) : (stagedBytes b0 p n).length ≤ n + 1 :=
  Nat.succ_le_succ (List.length_take_le n p)

/-- Initiate leaves the TX bytes above the staged ones (R93, R136). -/
theorem State.initiate_txAt (s : State) (b0 : Byte) (p : List Byte) {n a : Nat} (rs : Bool) (ha : n + 1 ≤ a) :
    (s.initiate b0 p n rs).txAt a = s.txAt a := by
  obtain ⟨-, -, -, -, htxBuf, -⟩ := s.initiate_fields b0 p n rs
  obtain ⟨-, hresets, -⟩ := s.initiate_rx b0 p n rs
  refine State.txAt_congr ?_ hresets
  rw [htxBuf]
  exact (staged_writeBytes _ _).2 a ((stagedBytes_length_le b0 p n).trans ha)

/-- Staging for the slave transmitter leaves the TX bytes above the staged ones (R93, R140). -/
theorem State.stageSlaveTx_txAt (s : State) (p : List Byte) {k a : Nat} (ha : k ≤ a) :
    (s.stageSlaveTx p k).txAt a = s.txAt a :=
  State.txAt_congr ((staged_writeBytes _ _).2 a ((List.length_take_le k p).trans ha)) rfl

/-- Initiate writes DATA only when it bridges after a repeated START (R136). -/
theorem State.initiate_data {s : State} (hb : s.busState ≠ .repeatedStartSent) (b0 : Byte) (p : List Byte) (n : Nat)
    (rs : Bool) : (s.initiate b0 p n rs).data = s.data := by
  obtain ⟨-, -, -, -, -, -, -, -, -, -, -, -, -, -, -, -, -, hdata⟩ := s.initiate_fields b0 p n rs
  exact hdata hb

/-- No request writes an RX byte, the requests left, the turns or the free values. -/
theorem exec_request_rx {i : Instr} {s t : State} (hi : isRequest i = true) (h : exec i s = .next t) :
    t.rxBuf = s.rxBuf ∧ t.resets = s.resets ∧ t.requests = s.requests ∧ t.turns = s.turns := by
  rcases exec_request_cases hi h with ⟨m, a, -, -, rfl⟩ | ⟨b, rfl, -⟩ | ⟨rfl, -⟩ | ⟨n, p, -, rfl⟩ |
    ⟨rs, a, n, p, -, -, -, rfl⟩ | ⟨rs, a, n, p, -, -, rfl⟩ | ⟨rs, a, n, -, -, -, rfl⟩
  · cases m <;> exact ⟨rfl, rfl, rfl, rfl⟩
  · exact ⟨rfl, rfl, rfl, rfl⟩
  · exact ⟨rfl, rfl, rfl, rfl⟩
  · exact ⟨rfl, rfl, rfl, rfl⟩
  · exact s.initiate_rx _ _ _ _
  · exact s.initiate_rx _ _ _ _
  · exact (s.stageRx n).initiate_rx _ _ _ _

/-- A request writes no TX byte above those it stages. -/
theorem exec_request_txAt {i : Instr} {s t : State} (hi : isRequest i = true) (h : exec i s = .next t) {a : Nat}
    (ha : txBytesStored i s ≤ a) : t.txAt a = s.txAt a := by
  rcases exec_request_cases hi h with ⟨m, _, -, -, rfl⟩ | ⟨b, rfl, -⟩ | ⟨rfl, -⟩ | ⟨n, p, rfl, rfl⟩ |
    ⟨rs, _, n, p, rfl, -, -, rfl⟩ | ⟨rs, _, n, p, rfl, -, rfl⟩ | ⟨rs, _, n, rfl, -, -, rfl⟩
  · cases m <;> rfl
  · rfl
  · rfl
  · exact s.stageSlaveTx_txAt p ha
  · exact s.initiate_txAt _ p rs ha
  · exact s.initiate_txAt _ p rs ha
  · exact (s.stageRx n).initiate_txAt _ [] rs ha

/-- A request writes DATA only when it bridges after a repeated START. -/
theorem exec_request_data {i : Instr} {s t : State} (hi : isRequest i = true) (h : exec i s = .next t)
    (hb : s.busState ≠ .repeatedStartSent) : t.data = s.data := by
  rcases exec_request_cases hi h with ⟨m, a, -, -, rfl⟩ | ⟨b, rfl, -⟩ | ⟨rfl, -⟩ | ⟨n, p, -, rfl⟩ |
    ⟨rs, a, n, p, -, -, -, rfl⟩ | ⟨rs, a, n, p, -, -, rfl⟩ | ⟨rs, a, n, -, -, -, rfl⟩
  · cases m <;> rfl
  · rfl
  · rfl
  · rfl
  · exact State.initiate_data hb _ _ _ _
  · exact State.initiate_data hb _ _ _ _
  · exact State.initiate_data (s := s.stageRx n) hb _ _ _ _

/-! ### The buffers stay canonical (R40, R45) -/

/-- An event with its cursor inside its buffer keeps both canonical: it writes no TX byte, and an RX byte only by
storing DATA at the cursor. -/
theorem eventAfter_buffersCanonical {i : Instr} {s : State} (hin : eventInside i s) (h : BuffersCanonical s) :
    BuffersCanonical (eventAfter i s) := by
  obtain ⟨htx, hrx⟩ := h
  obtain ⟨htxBuf, -⟩ := eventAfter_keepsTxAndHost i s
  refine ⟨by rwa [eventAfter_params, htxBuf], ?_⟩
  rw [eventAfter_params]
  cases hi : isReceive i with
  | false => rwa [eventAfter_rxBuf hi]
  | true =>
    obtain ⟨⟨hrxBuf, -⟩, -⟩ := eventAfter_of_receive hi s
    rw [hrxBuf]
    exact received_rxBuf_wf hrx (eventInside_of_receive hi hin)

/-- A transfer of at most `TX_CAP` bytes is staged inside `txBuf`, the address byte included (R93, R136). -/
theorem State.initiate_buffersCanonical {s : State} (h : BuffersCanonical s) {n : Nat} (hn : n ≤ s.params.txCap)
    (b0 : Byte) (p : List Byte) (rs : Bool) : BuffersCanonical (s.initiate b0 p n rs) := by
  obtain ⟨htx, hrx⟩ := h
  obtain ⟨hparams, -, -, -, htxBuf, -⟩ := s.initiate_fields b0 p n rs
  obtain ⟨hrxBuf, -⟩ := s.initiate_rx b0 p n rs
  have hfits : 0 + (stagedBytes b0 p n).length ≤ s.params.txSize := by
    rw [Nat.zero_add]
    exact (stagedBytes_length_le b0 p n).trans (Nat.succ_le_succ hn)
  constructor
  · rw [hparams, htxBuf]; exact Memory.wf_writeBytes _ _ _ _ htx hfits
  · rwa [hparams, hrxBuf]

/-- At most `TX_CAP` bytes are staged for the slave transmitter, so they are inside `txBuf` (R93, R140). -/
theorem State.stageSlaveTx_buffersCanonical {s : State} (h : BuffersCanonical s) {k : Nat} (hk : k ≤ s.params.txCap)
    (p : List Byte) : BuffersCanonical (s.stageSlaveTx p k) := by
  obtain ⟨htx, hrx⟩ := h
  have hfits : 0 + (p.take k).length ≤ s.params.txSize := by
    rw [Nat.zero_add]
    exact ((List.length_take_le k p).trans hk).trans (Nat.le_succ _)
  exact ⟨Memory.wf_writeBytes _ _ _ _ htx hfits, hrx⟩

theorem exec_request_buffersCanonical {i : Instr} {s t : State} (hi : isRequest i = true) (h : exec i s = .next t)
    (hs : BuffersCanonical s) : BuffersCanonical t := by
  rcases exec_request_cases hi h with ⟨m, a, -, -, rfl⟩ | ⟨b, rfl, -⟩ | ⟨rfl, -⟩ | ⟨n, p, -, rfl⟩ |
    ⟨rs, a, n, p, -, hn, -, rfl⟩ | ⟨rs, a, n, p, -, -, rfl⟩ | ⟨rs, a, n, -, -, -, rfl⟩
  · cases m <;> exact hs
  · exact hs
  · exact hs
  · exact State.stageSlaveTx_buffersCanonical hs (Nat.min_le_right _ _) p
  · exact State.initiate_buffersCanonical hs hn _ p rs
  · exact State.initiate_buffersCanonical hs (Nat.min_le_right _ _) _ p rs
  · exact State.initiate_buffersCanonical (s := s.stageRx n) hs (Nat.zero_le _) _ [] rs

theorem exec_buffersCanonical {i : Instr} {s t : State} (h : exec i s = .next t) (hs : BuffersCanonical s) :
    BuffersCanonical t := by
  rcases exec_cases h with ⟨-, hin, rfl⟩ | hi | ⟨-, -, c, rfl⟩
  · exact eventAfter_buffersCanonical hin hs
  · exact exec_request_buffersCanonical hi h hs
  · exact hs

theorem readCompletion_buffersCanonical {n : Nat} {s t : State} (h : readCompletion n s = .next t)
    (hs : BuffersCanonical s) : BuffersCanonical t := by
  rcases readCompletion_inv h with ⟨-, rfl⟩ | ⟨-, -, rfl⟩ <;> exact hs

/-! ### What one step puts out (R51) -/

theorem eventAfter_putsOutOneStep (i : Instr) (s : State) : PutsOutOneStep s (eventAfter i s) := by
  cases i
  case evStartSent | evMtSlaAck | evMtDataAck => exact putsOutOneStep_tail rfl
  case evStSlaAck | evStDataAck => exact putsOutOneStep_slavePushed rfl
  case evMtDataNack => exact putsOutOneStep_completed rfl
  case evMrDataNack => exact putsOutOneStep_completed (received_trace s)
  case evMrDataAck | evSrDataAck | evSrGcallDataAck => exact putsOutOneStep_driven (received_trace s) rfl
  case evMtSlaNack | evMrSlaNack | evArbLost | evMrSlaAck | evSrSlaAck | evSrGcallAck | evSrStop | evStDataNack |
      evUnrecognized =>
    exact putsOutOneStep_driven rfl rfl
  all_goals exact putsOutOneStep_of_eq rfl

/-- SET_MODE puts out its ADDRMATCH write and then the arming pattern or its one command (R150). -/
theorem State.configure_putsOutOneStep (s : State) (m : Mode) (a : BitVec 7) : PutsOutOneStep s (s.configure m a) := by
  cases m with
  | master => exact ⟨[.addr 0x00#8, .arm], by simp [State.configure], rfl⟩
  | slave => exact ⟨[.addr (ownAddress a), .cmd .enableSlaveReset], by simp [State.configure], rfl⟩

/-- Initiate puts out START, or the address byte and the command that sends it (R136). -/
theorem State.initiate_putsOutOneStep (s : State) (b0 : Byte) (p : List Byte) (n : Nat) (rs : Bool) :
    PutsOutOneStep s (s.initiate b0 p n rs) := by
  rcases s.initiate_output b0 p n rs with ⟨htrace, -⟩ | ⟨htrace, -⟩ <;> exact ⟨_, htrace, rfl⟩

theorem exec_request_putsOutOneStep {i : Instr} {s t : State} (hi : isRequest i = true) (h : exec i s = .next t) :
    PutsOutOneStep s t := by
  rcases exec_request_cases hi h with ⟨m, a, -, -, rfl⟩ | ⟨b, rfl, -⟩ | ⟨rfl, -⟩ | ⟨n, p, -, rfl⟩ |
    ⟨rs, a, n, p, -, -, -, rfl⟩ | ⟨rs, a, n, p, -, -, rfl⟩ | ⟨rs, a, n, -, -, -, rfl⟩
  · exact s.configure_putsOutOneStep m a
  · exact putsOutOneStep_of_eq rfl
  · exact putsOutOneStep_of_eq rfl
  · exact putsOutOneStep_of_eq rfl
  · exact s.initiate_putsOutOneStep _ _ _ _
  · exact s.initiate_putsOutOneStep _ _ _ _
  · exact (s.stageRx n).initiate_putsOutOneStep _ _ _ _

theorem exec_putsOutOneStep {i : Instr} {s t : State} (h : exec i s = .next t) : PutsOutOneStep s t := by
  rcases exec_cases h with ⟨-, -, rfl⟩ | hi | ⟨-, -, c, rfl⟩
  · exact eventAfter_putsOutOneStep i s
  · exact exec_request_putsOutOneStep hi h
  · rw [State.issue_eq_driven]; exact putsOutOneStep_driven rfl rfl

theorem readCompletion_putsOutOneStep {n : Nat} {s t : State} (h : readCompletion n s = .next t) :
    PutsOutOneStep s t := by
  rcases readCompletion_inv h with ⟨-, rfl⟩ | ⟨-, -, rfl⟩ <;> exact putsOutOneStep_of_eq rfl

/-! ### What a step runs (R52, R100, R143) -/

/-- A turn that delivers an event runs it with DATA delivered and the event pending. -/
theorem step_of_event_turn {s : State} {code din : Byte} {ts : List Turn} {i : Instr}
    (hT : s.turns = .event code din :: ts) (h : decode s.params (.ev code) = .ok i) :
    step s = exec i ((s.beginTurn ts).deliver din) := by
  simp only [step, fetch, hT, fetchWord, State.deliver_params, State.beginTurn_params, h]

/-- A turn that drives a command on the Command Issuer's port runs it (log 8). -/
theorem step_of_issue_turn {s : State} {code : BitVec 3} {ts : List Turn} {i : Instr}
    (hT : s.turns = .issue code :: ts) (h : decode s.params (.cmd code) = .ok i) :
    step s = exec i (s.beginTurn ts) := by
  simp only [step, fetch, hT, fetchWord, State.beginTurn_params, h]

/-- A host's turn with no request open takes the next request and runs it. -/
theorem step_of_presented_request {s : State} {ts : List Turn} {w : HostWord} {ws : List HostWord} {i : Instr}
    (hT : s.turns = .host :: ts) (hO : s.openReq = none) (hR : s.requests = w :: ws)
    (h : decode s.params (.host w) = .ok i) : step s = exec i { s.beginTurn ts with requests := ws } := by
  simp only [step, fetch, hT, fetchHost, State.beginTurn_openReq, State.beginTurn_requests, hO, hR, fetchWord,
    State.beginTurn_params, h]

end Sys2Proof.Machine

namespace Sys2Proof.MemoryRules

open Sys2Proof.Machine Sys2Proof.Safety

/-- Settles O48: a turn is taken without touching a buffer; every instruction writes only inside the buffers, READ's
completion writes none, and `rst` empties both. -/
theorem buffersStayCanonical : Obligations.BuffersStayCanonical := by
  intro s t hs h
  rcases step_next_cases h with ⟨u, ⟨_, _, _, _, _, rfl⟩, ⟨i, hx⟩ | ⟨n, hx⟩ | rfl⟩ | ⟨ts, -, rfl⟩
  · exact exec_buffersCanonical hx hs
  · exact readCompletion_buffersCanonical hx hs
  · exact hs
  · exact State.resetWith_wf s.params

/-- Settles O18: taking a turn puts nothing out, and what it then runs puts out one of R51's forms. -/
theorem oneStepPutsOutAtMostOneCommand : Obligations.OneStepPutsOutAtMostOneCommand := by
  intro s t h hr
  obtain ⟨u, ⟨_, _, _, _, _, hu⟩, hrun⟩ := step_next_cases_of_not_rst h hr
  have hout : PutsOutOneStep u t := by
    rcases hrun with ⟨i, hx⟩ | ⟨n, hx⟩ | rfl
    · exact exec_putsOutOneStep hx
    · exact readCompletion_putsOutOneStep hx
    · exact putsOutOneStep_of_eq rfl
  rwa [hu] at hout

/-- Settles O32: an event that completes leaves `eventAfter`, whose frame is read off the terms of its rule. -/
theorem handlerFrame : Obligations.HandlerFrame := by
  intro i s t hi h
  obtain ⟨rfl, -⟩ := exec_event_inv hi h
  obtain ⟨htxBuf, htxLen, hresets, hhost⟩ := eventAfter_keepsTxAndHost i s
  obtain ⟨hmode, haddr, hrep⟩ := eventAfter_configuration i s
  refine ⟨fun a => State.txAt_congr (by rw [htxBuf]) hresets, htxLen, hrep, hmode, haddr, eventAfter_params i s,
    hresets, hhost, fun a ha => eventAfter_rxAt_of_ne i s ha,
    fun hr a => State.rxAt_congr (eventAfter_rxBuf hr s) hresets a, fun hr => (eventAfter_of_receive hr s).2,
    fun hsla hgcall => eventAfter_rxCursor hsla hgcall s, ?_⟩
  rcases eventAfter_txIndex i s with (heq | hsucc) | hzero | hone
  · exact .inl heq
  · exact .inr (.inl hsucc)
  · exact .inr (.inr (.inl hzero))
  · exact .inr (.inr (.inr hone))

/-- Settles O42: SET_MODE clears cursors and lengths but no byte, an answer or a hold writes no buffer, and the four
that stage write TX from its start up to the bytes they store. -/
theorem requestFrame : Obligations.RequestFrame := by
  intro i s t hi h
  obtain ⟨hrxBuf, hresets, hrequests, hturns⟩ := exec_request_rx hi h
  exact ⟨State.rxAt_congr hrxBuf hresets, exec_request_lastErr hi h, exec_request_params hi h, hresets, hrequests,
    hturns, fun _ ha => exec_request_txAt hi h ha, exec_request_data hi h, exec_request_mode_addrMatch hi h⟩

/-- Settles O12: each kind of turn fetches its word on the state with the turn taken, and a word that decodes is run. -/
theorem stepRunsTheDecodedWord : Obligations.StepRunsTheDecodedWord :=
  ⟨fun _ _ _ _ _ hT h => step_of_event_turn hT h, fun _ _ _ _ hT h => step_of_issue_turn hT h,
    fun _ _ _ _ _ hT hO hR h => step_of_presented_request hT hO hR h⟩

/-- Settles O33: a cursor below its length but not inside the buffer falsifies the condition under which the event
completes. -/
theorem cursorOutsideTheBufferFaults : Obligations.CursorOutsideTheBufferFaults := by
  constructor
  · intro s hlt hout
    have houtside : ¬ txCursorInside s := fun hin => absurd (hin hlt) (Nat.not_lt.mpr hout)
    exact ⟨exec_event_fault rfl houtside, exec_event_fault rfl houtside, exec_event_fault rfl houtside⟩
  · intro s hlt hout
    have houtside : ¬ rxCursorInside s := fun hin => absurd (hin hlt) (Nat.not_lt.mpr hout)
    exact ⟨exec_event_fault rfl houtside, exec_event_fault rfl houtside, exec_event_fault rfl houtside,
      exec_event_fault rfl houtside⟩

end Sys2Proof.MemoryRules
end

section
/-!
PROOFS. The encodings' statements (30_encoding): the decoder reads the encoder's word back (R60 to R68), what a decoded
word is (R64, R67), the catch-all (R64), the reserved operation and bits (R69), the address byte (R70) and the BusState
codes (R72).
-/

namespace Sys2Proof

/-! ### EV words (R62, R64) -/

/-- The encoder gives a recognised event the byte its binding gives it. -/
theorem encode_eventInstr (p : Params) (e : Event) : encode p (eventInstr e) = .ev (p.status.code e) := by
  cases e <;> rfl

/-- A valid block decodes the byte of each event to that event. -/
theorem decode_ev_code {p : Params} (hp : p.Valid) (e : Event) :
    decode p (.ev (p.status.code e)) = .ok (eventInstr e) := by
  simp only [decode, decodeEvent, findEvent_code p hp e]

/-- A byte that is no event's decodes to the catch-all. -/
theorem decode_ev_unrecognized {p : Params} {code : Byte} (h : ∀ e, p.status.code e ≠ code) :
    decode p (.ev code) = .ok (.evUnrecognized code) := by
  simp only [decode, decodeEvent, (findEvent_none_iff p.status code).mpr h]

theorem wellFormed_eventInstr (p : Params) (e : Event) : (eventInstr e).wellFormed p = true := by
  cases e <;> rfl

/-- The catch-all's operand is well formed exactly when no event has it (R64). -/
theorem wellFormed_evUnrecognized_iff {p : Params} {code : Byte} :
    (Instr.evUnrecognized code).wellFormed p = true ↔ ∀ e, p.status.code e ≠ code := by
  simp [Instr.wellFormed, mem_allEvents]

/-- An EV word always decodes to a well-formed instruction. -/
theorem wellFormed_decodeEvent (p : Params) (code : Byte) : (decodeEvent p.status code).wellFormed p = true := by
  unfold decodeEvent
  split
  next e _ => exact wellFormed_eventInstr p e
  next hnone => exact wellFormed_evUnrecognized_iff.mpr ((findEvent_none_iff p.status code).mp hnone)

/-- A byte decodes to the catch-all exactly when no event has it. -/
theorem decode_ev_unrecognized_iff {p : Params} {code : Byte} :
    decode p (.ev code) = .ok (.evUnrecognized code) ↔ ∀ e, p.status.code e ≠ code := by
  refine ⟨fun h => ?_, decode_ev_unrecognized⟩
  have hwf := wellFormed_decodeEvent p code
  rwa [Except.ok.inj h, wellFormed_evUnrecognized_iff] at hwf

/-- The bytes of the nineteen events, as numbers. -/
def eventCodes (p : Params) : List Nat := allEvents.map fun e => (p.status.code e).toNat

theorem mem_eventCodes {p : Params} {k : Nat} : k ∈ eventCodes p ↔ ∃ e, (p.status.code e).toNat = k := by
  simp [eventCodes, mem_allEvents]

theorem eventCodes_lt {p : Params} {k : Nat} (h : k ∈ eventCodes p) : k < 256 := by
  obtain ⟨e, rfl⟩ := mem_eventCodes.mp h
  exact (p.status.code e).isLt

/-- The nineteen bytes of a valid block are distinct (U14). -/
theorem nodup_eventCodes {p : Params} (hp : p.Valid) : (eventCodes p).Nodup :=
  (by decide : allEvents.Nodup).map fun e f h => hp.2 e f (BitVec.eq_of_toNat_eq h)

/-- A number below 256 decodes to the catch-all exactly when it is none of the nineteen. -/
theorem decode_ev_ofNat_unrecognized_iff {p : Params} {k : Nat} (hk : k < 256) :
    decode p (.ev (BitVec.ofNat 8 k)) = .ok (.evUnrecognized (BitVec.ofNat 8 k)) ↔ k ∉ eventCodes p := by
  rw [decode_ev_unrecognized_iff, mem_eventCodes, not_exists]
  refine forall_congr' fun e => not_congr ?_
  rw [← BitVec.toNat_inj, BitVec.toNat_ofNat, Nat.mod_eq_of_lt hk]

/-- The numbers below `m` that a duplicate-free list of such numbers leaves out. -/
theorem length_filter_range_notMem {l : List Nat} {m : Nat} (hl : l.Nodup) (hlt : ∀ k ∈ l, k < m) :
    ((List.range m).filter fun k => !decide (k ∈ l)).length = m - l.length := by
  have hperm : ((List.range m).filter fun k => decide (k ∈ l)).Perm l :=
    (List.perm_ext_iff_of_nodup (List.nodup_range.filter _) hl).mpr fun k => by simpa using hlt k
  have hsplit := List.length_eq_length_filter_add (l := List.range m) fun k => decide (k ∈ l)
  rw [hperm.length_eq, List.length_range] at hsplit
  omega

/-- Under every valid binding, 256 - 19 = 237 values decode to the catch-all. -/
theorem unrecognized_count {p : Params} (hp : p.Valid) :
    ((List.range 256).filter fun k =>
      decide (decode p (.ev (BitVec.ofNat 8 k)) = .ok (.evUnrecognized (BitVec.ofNat 8 k)))).length = 237 := by
  have hcodes : (eventCodes p).length = 19 := List.length_map _
  rw [List.filter_congr (q := fun k => !decide (k ∈ eventCodes p)) fun k hk => by
      simp only [decode_ev_ofNat_unrecognized_iff (List.mem_range.mp hk), decide_not],
    length_filter_range_notMem (nodup_eventCodes hp) fun _ => eventCodes_lt, hcodes]

/-! ### CMD words (R65) -/

/-- The instruction of a command. -/
def commandInstr : Command → Instr
  | .start => .start
  | .stop => .stop
  | .transmitData => .transmitData
  | .transmitAck => .transmitAck
  | .transmitNack => .transmitNack
  | .enableSlaveReset => .enableSlaveReset

theorem encode_commandInstr (p : Params) (c : Command) : encode p (commandInstr c) = .cmd (commandCode c) := by
  cases c <;> rfl

theorem decode_cmd_commandCode (p : Params) (c : Command) :
    decode p (.cmd (commandCode c)) = .ok (commandInstr c) := by
  cases c <;> rfl

theorem wellFormed_of_decodeCommand {p : Params} {code : BitVec 3} {i : Instr} (h : decodeCommand code = .ok i) :
    i.wellFormed p = true := by
  unfold decodeCommand at h
  split at h <;> cases h <;> rfl

/-! ### HOST words (R67, R68, R69) -/

theorem checkLength_eq_ok_iff {p : Params} {n : Nat} {i j : Instr} :
    checkLength p n i = .ok j ↔ p.lengthFits n = true ∧ i = j := by
  unfold checkLength
  split <;> simp_all

theorem checkPayload_eq_ok_iff {p : Params} {n : Nat} {d : List Byte} {i j : Instr} :
    checkPayload p n d i = .ok j ↔ p.lengthFits n = true ∧ d.length = n ∧ i = j := by
  unfold checkPayload
  split_ifs <;> simp_all

/-- Every request is what its word decodes to, if its length fits the port and its payload has that length. -/
theorem decode_encode_request {p : Params} {i : Instr} (hi : Safety.isRequest i = true) (hwf : i.wellFormed p = true) :
    decode p (encode p i) = .ok i := by
  cases i <;> simp only [Safety.isRequest, Bool.false_eq_true] at hi
  case setMode => simp [encode, hostWord, decode, decodeHost]
  case write | writeText | slaveStage =>
    simpa [encode, hostWord, decode, decodeHost, checkPayload_eq_ok_iff, Instr.wellFormed] using hwf
  case read => simpa [encode, hostWord, decode, decodeHost, checkLength_eq_ok_iff, Instr.wellFormed] using hwf
  case isReady | isAvailable | hostReserved => rfl

/-- An operation with a length passes the decoder only with a length that fits, and one with a payload only with as many
bytes. -/
theorem wellFormed_of_decodeHost {p : Params} {w : HostWord} {i : Instr} (h : decodeHost p w = .ok i) :
    i.wellFormed p = true := by
  unfold decodeHost at h
  split at h
  case h_2 | h_3 | h_4 =>
    obtain ⟨hfits, hlen, rfl⟩ := checkPayload_eq_ok_iff.mp h
    simp [Instr.wellFormed, hfits, hlen]
  case h_5 =>
    obtain ⟨hfits, rfl⟩ := checkLength_eq_ok_iff.mp h
    exact hfits
  case h_1 | h_6 | h_7 | h_8 => cases h; rfl

/-- A request's header is read through its four fields only. -/
theorem decodeHost_congr {p : Params} {w w' : HostWord} (hop : headerOp w.header = headerOp w'.header)
    (hrs : headerRs w.header = headerRs w'.header) (hm : headerM w.header = headerM w'.header)
    (ha : headerA w.header = headerA w'.header) (hn : w.n = w'.n) (hd : w.payload = w'.payload) :
    decodeHost p w = decodeHost p w' := by
  simp only [decodeHost, hop, hrs, hm, ha, hn, hd]

/-- The header with its reserved bits 10 to 8 and a[7] cleared (R69). -/
def usedBits (h : BitVec 16) : BitVec 16 := h &&& 0xF87F#16

theorem headerOp_usedBits (h : BitVec 16) : headerOp (usedBits h) = headerOp h := by
  apply BitVec.eq_of_getLsbD_eq
  intro i hi
  interval_cases i <;> simp [headerOp, usedBits]

theorem headerRs_usedBits (h : BitVec 16) : headerRs (usedBits h) = headerRs h := by
  simp [headerRs, usedBits]

theorem headerM_usedBits (h : BitVec 16) : headerM (usedBits h) = headerM h := by
  simp [headerM, usedBits]

theorem headerA_usedBits (h : BitVec 16) : headerA (usedBits h) = headerA h := by
  apply BitVec.eq_of_getLsbD_eq
  intro i hi
  interval_cases i <;> simp [headerA, usedBits]

/-- The decoder reads a request through the used bits of its header. -/
theorem decodeHost_usedBits (p : Params) (h : BitVec 16) (n : Nat) (d : List Byte) :
    decodeHost p ⟨usedBits h, n, d⟩ = decodeHost p ⟨h, n, d⟩ :=
  decodeHost_congr (headerOp_usedBits h) (headerRs_usedBits h) (headerM_usedBits h) (headerA_usedBits h) rfl rfl

/-- Operation 7 decodes to the reserved operation, whatever comes with it. -/
theorem decodeHost_reserved {p : Params} {w : HostWord} (h : headerOp w.header = 7#3) :
    decodeHost p w = .ok .hostReserved := by
  simp [decodeHost, h]

/-! ### The three spaces together (R60) -/

theorem exists_eventInstr_of_mem {i : Instr} (h : i ∈ allEvents.map eventInstr) : ∃ e, eventInstr e = i :=
  (List.mem_map.mp h).imp fun _ => And.right

/-- An instruction is a recognised event, the catch-all, a command or a request. -/
theorem instr_cases (i : Instr) :
    (∃ e, eventInstr e = i) ∨ (∃ code, i = .evUnrecognized code) ∨ (∃ c, commandInstr c = i) ∨
      Safety.isRequest i = true := by
  cases i
  case evUnrecognized code => exact .inr (.inl ⟨code, rfl⟩)
  case start => exact .inr (.inr (.inl ⟨.start, rfl⟩))
  case stop => exact .inr (.inr (.inl ⟨.stop, rfl⟩))
  case transmitData => exact .inr (.inr (.inl ⟨.transmitData, rfl⟩))
  case transmitAck => exact .inr (.inr (.inl ⟨.transmitAck, rfl⟩))
  case transmitNack => exact .inr (.inr (.inl ⟨.transmitNack, rfl⟩))
  case enableSlaveReset => exact .inr (.inr (.inl ⟨.enableSlaveReset, rfl⟩))
  case setMode | write | writeText | slaveStage | read | isReady | isAvailable | hostReserved =>
    exact .inr (.inr (.inr rfl))
  all_goals exact .inl (exists_eventInstr_of_mem (by decide))

/-- The decoder inverts the encoder on the well-formed instructions of a valid block. -/
theorem decode_encode {p : Params} (hp : p.Valid) {i : Instr} (hwf : i.wellFormed p = true) :
    decode p (encode p i) = .ok i := by
  rcases instr_cases i with ⟨e, rfl⟩ | ⟨code, rfl⟩ | ⟨c, rfl⟩ | hreq
  · rw [encode_eventInstr, decode_ev_code hp]
  · exact decode_ev_unrecognized (wellFormed_evUnrecognized_iff.mp hwf)
  · rw [encode_commandInstr, decode_cmd_commandCode]
  · exact decode_encode_request hreq hwf

/-- What the decoder reads is well formed. -/
theorem wellFormed_of_decode {p : Params} {w : PortWord} {i : Instr} (h : decode p w = .ok i) :
    i.wellFormed p = true := by
  cases w with
  | ev code => cases h; exact wellFormed_decodeEvent p code
  | cmd code => exact wellFormed_of_decodeCommand h
  | host w => exact wellFormed_of_decodeHost h

end Sys2Proof

namespace Sys2Proof.Machine

/-- The address byte is the header's low byte shifted left one bit: a[7] falls off (R70). -/
theorem slaW_headerA (h : BitVec 16) : slaW (headerA h) = (h.extractLsb' 0 8) <<< 1 := by
  apply BitVec.eq_of_getLsbD_eq
  intro i hi
  interval_cases i <;> simp [slaW, headerA]

/-- The two address bytes differ in the intent bit (R70). -/
theorem slaR_eq_slaW_or (a : BitVec 7) : slaR a = slaW a ||| 1#8 := rfl

/-- A BusState's code is its position in the order of the table (R72). -/
theorem busCode_toNat (b : BusState) : (busCode b).toNat = b.ctorIdx := by cases b <;> rfl

theorem busCode_injective {a b : BusState} (h : busCode a = busCode b) : a = b := by
  have hidx : a.ctorIdx = b.ctorIdx := by rw [← busCode_toNat, ← busCode_toNat, h]
  rw [← BusState.ofNat_ctorIdx a, ← BusState.ofNat_ctorIdx b, hidx]

theorem busCode_ne_seven (b : BusState) : busCode b ≠ 7#3 := by cases b <;> decide

end Sys2Proof.Machine

namespace Sys2Proof.EncodingRules

open Sys2Proof.Machine Sys2Proof.Safety

/-- Settles O6: an event's byte is found again because the binding is injective, a command's code is in its table, and a
request's fields are read back from its header. -/
theorem decodeOfEncodeIsTheInstruction : Obligations.DecodeOfEncodeIsTheInstruction :=
  fun _ _ hp hwf => decode_encode hp hwf

/-- Settles O7: the catch-all is the answer only when no event has the byte, and a request passes only with its lengths
checked. -/
theorem decodedWordIsWellFormed : Obligations.DecodedWordIsWellFormed :=
  fun _ _ _ h => wellFormed_of_decode h

/-- Settles O8: a value is the catch-all's when no event has it, nineteen of the 256 are an event's, and the catch-all's
rule completes in every state. -/
theorem everyOtherCodeIsUnrecognized : Obligations.EveryOtherCodeIsUnrecognized := by
  refine ⟨fun p code h => decode_ev_unrecognized h, unrecognized_count defaultParams_valid, ?_, fun code s => ?_⟩
  · simp only [decode_ev_unrecognized_iff, ← wellFormed_evUnrecognized_iff]
    decide
  · exact exec_event_next (i := .evUnrecognized code) rfl trivial

/-- Settles O9: operation 7 has its own row, and headers that agree on the used bits are read alike. -/
theorem reservedHostBitsAreIgnored : Obligations.ReservedHostBitsAreIgnored := by
  refine ⟨fun p w hop => decodeHost_reserved hop, fun s => rfl, fun p h h' n d heq => ?_⟩
  have hused : usedBits h = usedBits h' := heq
  calc decodeHost p ⟨h, n, d⟩
      _ = decodeHost p ⟨usedBits h, n, d⟩ := (decodeHost_usedBits p h n d).symm
      _ = decodeHost p ⟨usedBits h', n, d⟩ := by rw [hused]
      _ = decodeHost p ⟨h', n, d⟩ := decodeHost_usedBits p h' n d

/-- Settles O4: the default binding gives each event the code of its row, and 0x88 is no event's. -/
theorem eventCodesOfTheTable : Obligations.EventCodesOfTheTable :=
  have row := decode_ev_code defaultParams_valid
  ⟨row .startSent, row .repStartSent, row .mtSlaAck, row .mtSlaNack, row .mtDataAck, row .mtDataNack, row .arbLost,
    row .mrSlaAck, row .mrSlaNack, row .mrDataAck, row .mrDataNack, row .srSlaAck, row .srGcallAck, row .srDataAck,
    row .srGcallDataAck, row .srStop, row .stSlaAck, row .stDataAck, row .stDataNack,
    decode_ev_unrecognized (wellFormed_evUnrecognized_iff.mp (by decide))⟩

/-- Settles O5: the commands by their codes, 6 and 7 by the decoder's last row, and each request by evaluating the
decoder on its word. -/
theorem commandAndRequestWordsOfTheTable : Obligations.CommandAndRequestWordsOfTheTable :=
  have row := decode_cmd_commandCode defaultParams
  ⟨row .start, row .stop, row .transmitData, row .transmitAck, row .transmitNack, row .enableSlaveReset, rfl, rfl,
    rfl, rfl, rfl, rfl, rfl, rfl, rfl, rfl, rfl⟩

/-- Settles O10: SLA_W is the header's low byte shifted left, and SLA_R is SLA_W with bit 0 set. -/
theorem addressByteLayout : Obligations.AddressByteLayout :=
  fun h => ⟨slaW_headerA h, by rw [slaR_eq_slaW_or, slaW_headerA]⟩

/-- Settles O11: a code is its BusState's position among the seven, so no two share one and none is 7. -/
theorem busStateCodes : Obligations.BusStateCodes :=
  ⟨fun _ _ h => busCode_injective h, fun s => busCode_ne_seven s.busState, rfl, rfl, rfl, rfl, rfl, rfl, rfl⟩

end Sys2Proof.EncodingRules
end

section
/-!
PROOFS. The Command Issuer's statement (40_command_issuer): each of the six commands is `issue` of its own command (R80
to R86), and the default patterns (R66).
-/

namespace Sys2Proof.Machine

/-- A command's instruction is `issue` of that command and nothing more (R81 to R86). -/
@[simp] theorem exec_commandInstr (c : Command) (s : State) : exec (commandInstr c) s = .next (s.issue c) := by
  cases c <;> rfl

end Sys2Proof.Machine

namespace Sys2Proof.CommandRules

open Sys2Proof.Machine

/-- Settles O17: each command's instruction is `issue` of it, which sets the four fields named and no other; the
patterns are read off the default binding. -/
theorem commandsDriveThePort : Obligations.CommandsDriveThePort := by
  refine ⟨fun s => ?_, rfl, rfl, rfl, rfl, rfl, rfl⟩
  have row (c : Command) : exec (commandInstr c) s = .next (s.issue c) := exec_commandInstr c s
  exact ⟨row .start, row .stop, row .transmitData, row .transmitAck, row .transmitNack, row .enableSlaveReset⟩

end Sys2Proof.CommandRules
end

section
/-!
PROOFS. The buffer controller's statements (41_buffer_controller): a byte received as master (R94, R95, R108, R109), the
bytes a slave transmitter sends (R92, R121 to R123), and the tie-break over a whole read (R95, 95_test_vectors S3).
-/

namespace Sys2Proof.Safety

open Sys2Proof.Machine

/-! ### What the tie-break and the append choose (R94, R95) -/

theorem ackChoice_of_more {s : State} (h : s.rxIndex + 1 < s.rxLen) : ackChoice s = .transmitAck := if_pos h

theorem ackChoice_of_last {s : State} (h : s.rxLen ≤ s.rxIndex + 1) : ackChoice s = .transmitNack :=
  if_neg (Nat.not_lt.mpr h)

/-- While there is room the cursor moves on (R94). -/
theorem received_rxIndex_of_room {s : State} (h : s.rxIndex < s.rxLen) : (received s).rxIndex = s.rxIndex + 1 := by
  rw [received, if_pos h]

/-- A cursor whose length is within the capacity is inside `rxBuf` (R30, R45). -/
theorem rxCursorInside_of_le {s : State} (h : s.rxLen ≤ s.params.rxCap) : rxCursorInside s :=
  fun hroom => hroom.trans_le h

end Sys2Proof.Safety

namespace Sys2Proof.Machine

open Sys2Proof.Safety

/-! ### Runs of recognised events -/

theorem isEvent_eventInstr (e : Event) : isEvent (eventInstr e) = true := by cases e <;> rfl

/-- No event takes or adds a turn (R169). -/
theorem eventAfter_turns (i : Instr) (s : State) : (eventAfter i s).turns = s.turns := by
  obtain ⟨-, -, -, -, -, -, hturns⟩ := eventAfter_keepsTxAndHost i s
  exact hturns

/-- A turn that delivers a recognised event, its cursor inside the buffer, leaves `eventAfter` (R62, R100). -/
theorem step_of_event {s : State} {e : Event} {din : Byte} {ts : List Turn} (hp : s.params.Valid)
    (hT : s.turns = .event (s.params.status.code e) din :: ts)
    (hin : eventInside (eventInstr e) ((s.beginTurn ts).deliver din)) :
    step s = .next (eventAfter (eventInstr e) ((s.beginTurn ts).deliver din)) := by
  rw [step_of_event_turn hT (decode_ev_code hp e), exec_event_next (isEvent_eventInstr e) hin]

/-- A run whose first step answers a next state goes on from it. -/
theorem run_succ_of_step {M : Host.Core} {s t : M.State} (h : M.step s = .next t) (k : Nat) :
    M.run (k + 1) s = M.run k t := by
  rw [Host.Core.run, h]

/-! ### A read in progress (R95, R105, R108) -/

/-- In `s` a read waits for `k` bytes and then its last one, all within `rxBuf`, and after `out` the tie-break on the
present cursor was put out. -/
structure AwaitsBytes (out : List OutItem) (k : Nat) (s : State) : Prop where
  bytesLeft : s.rxLen = s.rxIndex + k + 1
  fits : s.rxLen ≤ s.params.rxCap
  answer : s.trace = out ++ [.cmd (ackChoice s)]

/-- Only the last byte of a read is answered with NACK. -/
theorem AwaitsBytes.trace_of_last {out : List OutItem} {s : State} (h : AwaitsBytes out 0 s) :
    s.trace = out ++ [.cmd .transmitNack] := by
  rw [h.answer, ackChoice_of_last h.bytesLeft.le]

theorem AwaitsBytes.trace_of_more {out : List OutItem} {k : Nat} {s : State} (h : AwaitsBytes out (k + 1) s) :
    s.trace = out ++ [.cmd .transmitAck] := by
  have hleft := h.bytesLeft
  rw [h.answer, ackChoice_of_more (by omega)]

/-- The tie-break's command on the present cursor leaves a read that waits for the bytes left (R95). -/
theorem awaitsBytes_driven {s : State} {k : Nat} (hleft : s.rxLen = s.rxIndex + k + 1)
    (hfits : s.rxLen ≤ s.params.rxCap) : AwaitsBytes s.trace k (driven s [] (ackChoice s)) :=
  s.issue_eq_driven (ackChoice s) ▸ ⟨hleft, hfits, rfl⟩

/-- The acknowledged address of a read is answered for its first byte, and none is stored (R105). -/
theorem step_mrSlaAck_awaitsBytes {s : State} {k : Nat} {d : Byte} {ts : List Turn} (hp : s.params.Valid)
    (hleft : s.rxLen = s.rxIndex + k + 1) (hfits : s.rxLen ≤ s.params.rxCap)
    (hT : s.turns = .event (s.params.status.code .mrSlaAck) d :: ts) :
    ∃ t, step s = .next t ∧ AwaitsBytes s.trace k t ∧ t.rxIndex = s.rxIndex ∧ t.turns = ts :=
  ⟨_, step_of_event hp hT trivial,
    awaitsBytes_driven (s := ((s.beginTurn ts).deliver d).setBus .masterReceiving) hleft hfits, rfl, rfl⟩

/-- A byte that is not the last is stored and leaves one byte less to wait for (R94, R108). -/
theorem AwaitsBytes.eventAfter_mrDataAck {out : List OutItem} {k : Nat} {s : State} (h : AwaitsBytes out (k + 1) s) :
    AwaitsBytes (out ++ [.cmd .transmitAck]) k (eventAfter .evMrDataAck s) ∧
      (eventAfter .evMrDataAck s).rxIndex = s.rxIndex + 1 := by
  have hleft := h.bytesLeft
  have hindex : (received s).rxIndex = s.rxIndex + 1 := received_rxIndex_of_room (by omega)
  have hlen : (received s).rxLen = s.rxLen := (received_rxCursor s).1
  have htrace : (received s).trace = out ++ [.cmd .transmitAck] := (received_trace s).trans h.trace_of_more
  have hawaits := awaitsBytes_driven (s := received s) (k := k) (by omega) (by rw [hlen, received_params]; exact h.fits)
  exact ⟨htrace ▸ hawaits, hindex⟩

theorem AwaitsBytes.step_mrDataAck {out : List OutItem} {k : Nat} {s : State} {d : Byte} {ts : List Turn}
    (h : AwaitsBytes out (k + 1) s) (hp : s.params.Valid)
    (hT : s.turns = .event (s.params.status.code .mrDataAck) d :: ts) :
    ∃ t, step s = .next t ∧ AwaitsBytes (out ++ [.cmd .transmitAck]) k t ∧ t.rxIndex = s.rxIndex + 1 ∧
      t.turns = ts := by
  have hu : AwaitsBytes out (k + 1) ((s.beginTurn ts).deliver d) := ⟨h.bytesLeft, h.fits, h.answer⟩
  obtain ⟨hawaits, hindex⟩ := hu.eventAfter_mrDataAck
  exact ⟨_, step_of_event hp hT (rxCursorInside_of_le hu.fits), hawaits, hindex, eventAfter_turns _ _⟩

/-- The bytes of a read in progress, delivered one by one, are acknowledged up to the last (R95). -/
theorem AwaitsBytes.run {out : List OutItem} {k : Nat} {s : State} {d : Byte} (h : AwaitsBytes out k s)
    (hp : s.params.Valid) (hT : s.turns = List.replicate k (.event (s.params.status.code .mrDataAck) d)) :
    ∃ t, Host.Core.run core k s = .next t ∧ t.rxIndex = s.rxIndex + k ∧
      t.trace = out ++ List.replicate k (.cmd .transmitAck) ++ [.cmd .transmitNack] := by
  induction k generalizing s out with
  | zero => exact ⟨s, rfl, rfl, by rw [h.trace_of_last, List.replicate_zero, List.append_nil]⟩
  | succ k ih =>
    obtain ⟨u, hstep, hu, hindex, hturns⟩ := h.step_mrDataAck hp hT
    have hparams : u.params = s.params := step_params hstep
    obtain ⟨t, hrun, htindex, htrace⟩ := ih hu (hparams ▸ hp) (hparams ▸ hturns)
    refine ⟨t, (run_succ_of_step (M := core) hstep k).trans hrun, by omega, ?_⟩
    rw [htrace, List.replicate_succ, List.append_assoc out]
    rfl

end Sys2Proof.Machine

namespace Sys2Proof.BufferRules

open Sys2Proof.Machine Sys2Proof.Safety

/-- Settles O54: the acknowledged address leaves a read that waits for `n` bytes and its last, and its run answers ACK
`n` times before NACK. -/
theorem receiveTieBreak : Obligations.ReceiveTieBreak := by
  intro s n d hp hindex hlen hfits hT
  obtain ⟨u, hstep, hu, huindex, huturns⟩ := step_mrSlaAck_awaitsBytes (k := n) hp (by omega) (by omega) hT
  have hparams : u.params = s.params := step_params hstep
  obtain ⟨t, hrun, htindex, htrace⟩ := hu.run (hparams ▸ hp) (hparams ▸ huturns)
  exact ⟨t, (run_succ_of_step (M := core) hstep n).trans hrun, by omega, htrace⟩

/-- Settles O25: with the cursor inside `rxBuf` both events complete, and each leaves its own rule's term on the state
with the byte received. -/
theorem masterReceiveStoresAndAnswers : Obligations.MasterReceiveStoresAndAnswers :=
  fun _ hin => ⟨exec_event_next (i := .evMrDataAck) rfl hin, exec_event_next (i := .evMrDataNack) rfl hin⟩

/-- Settles O27: a match rewinds, so its cursor needs no condition, an acknowledged byte needs the cursor inside `txBuf`,
and a byte not acknowledged reads none. -/
theorem slaveTransmitterSendsStagedBytes : Obligations.SlaveTransmitterSendsStagedBytes :=
  fun _ => ⟨exec_event_next (i := .evStSlaAck) rfl trivial, fun hin => exec_event_next (i := .evStDataAck) rfl hin,
    exec_event_next (i := .evStDataNack) rfl trivial⟩

end Sys2Proof.BufferRules
end

section
/-!
PROOFS. The statements on the Bus State Machine's master side and on the handler as a whole (42_bsm_master): the result
of each transmit rule and of the failures (R101 to R107, R110), and that every event completes and reads neither `state`
nor `mode` (R100).
-/

namespace Sys2Proof.Safety

open Sys2Proof.Machine

/-! ### What the shared tail and the completion path choose (R101) -/

theorem completed_of_repStart {s : State} (h : s.repStart = true) : completed s = driven s [] .start := if_pos h

theorem completed_of_not_repStart {s : State} (h : s.repStart = false) :
    completed s = driven { s with busState := .available } [] .stop :=
  if_neg (ne_true_of_eq_false h)

theorem tail_of_more {s : State} (h : s.txIndex < s.txLen) : tail s = pushed s .transmitData := if_pos h

theorem tail_of_exhausted {s : State} (h : s.txLen ≤ s.txIndex) : tail s = completed s := if_neg (Nat.not_lt.mpr h)

/-- A cursor whose length is within the physical size is inside `txBuf` (R30, R45). -/
theorem txCursorInside_of_le {s : State} (h : s.txLen ≤ s.params.txSize) : txCursorInside s :=
  fun hmore => hmore.trans_le h

/-! ### Two runs that differ in `state` and `mode` alone (R100, R18) -/

/-- In two runs of a rule, from `state` `b₀` and from `state` `b`: `t'` is `t` but for `mode`, which is `m`, and for
`state`, if that is still as it was before the rule. -/
def AlikeButStateAndMode (b₀ b : BusState) (m : Mode) (t t' : State) : Prop :=
  ∃ b', t' = { t with busState := b', mode := m } ∧ (b' = t.busState ∨ (t.busState = b₀ ∧ b' = b))

namespace AlikeButStateAndMode

theorem before (s : State) (b : BusState) (m : Mode) :
    AlikeButStateAndMode s.busState b m s { s with busState := b, mode := m } :=
  ⟨b, rfl, .inr ⟨rfl, rfl⟩⟩

/-- Two runs that take the same branch are alike if they are in each branch. -/
theorem branch {b₀ b : BusState} {m : Mode} {t t' u u' : State} {c c' : Prop} [Decidable c] [Decidable c'] (hc : c ↔ c')
    (ht : AlikeButStateAndMode b₀ b m t t') (hu : AlikeButStateAndMode b₀ b m u u') :
    AlikeButStateAndMode b₀ b m (if c then t else u) (if c' then t' else u') := by
  simp only [← hc]
  split
  · exact ht
  · exact hu

variable {b₀ b : BusState} {m : Mode} {t t' : State} (h : AlikeButStateAndMode b₀ b m t t')
include h

theorem registers_eq : t'.repStart = t.repStart ∧ t'.txIndex = t.txIndex ∧ t'.txLen = t.txLen ∧
    t'.rxIndex = t.rxIndex ∧ t'.rxLen = t.rxLen := by
  obtain ⟨b', rfl, -⟩ := h
  exact ⟨rfl, rfl, rfl, rfl, rfl⟩

/-- An operation that neither reads nor writes `state` and `mode` keeps two runs alike. -/
theorem map (f : State → State)
    (hreads : ∀ (u : State) b', f { u with busState := b', mode := m } = { f u with busState := b', mode := m })
    (hwrites : (f t).busState = t.busState) : AlikeButStateAndMode b₀ b m (f t) (f t') := by
  obtain ⟨b', rfl, hb⟩ := h
  exact ⟨b', hreads t b', hwrites ▸ hb⟩

/-- A write of `state` makes it the same in both runs. -/
theorem setBus (c : BusState) : AlikeButStateAndMode b₀ b m (t.setBus c) (t'.setBus c) := by
  obtain ⟨b', rfl, -⟩ := h
  exact ⟨c, rfl, .inl rfl⟩

theorem setTxIndex (i : Nat) : AlikeButStateAndMode b₀ b m (t.setTxIndex i) (t'.setTxIndex i) :=
  h.map (·.setTxIndex i) (fun _ _ => rfl) rfl

theorem recordError (code : Byte) : AlikeButStateAndMode b₀ b m (t.recordError code) (t'.recordError code) :=
  h.map (·.recordError code) (fun _ _ => rfl) rfl

theorem driven (items : List OutItem) (c : Command) :
    AlikeButStateAndMode b₀ b m (driven t items c) (driven t' items c) :=
  h.map (Safety.driven · items c) (fun _ _ => rfl) rfl

theorem driven_ackChoice :
    AlikeButStateAndMode b₀ b m (Safety.driven t [] (ackChoice t)) (Safety.driven t' [] (ackChoice t')) :=
  h.map (fun u => Safety.driven u [] (ackChoice u)) (fun _ _ => rfl) rfl

theorem pushed (c : Command) : AlikeButStateAndMode b₀ b m (pushed t c) (pushed t' c) :=
  h.map (Safety.pushed · c) (fun _ _ => rfl) rfl

/-- The completion path is chosen by `repStart` (R101). -/
theorem completed : AlikeButStateAndMode b₀ b m (completed t) (completed t') := by
  obtain ⟨hrep, -⟩ := h.registers_eq
  exact .branch (by rw [hrep]) (h.driven _ _) ((h.setBus .available).driven _ _)

/-- The shared tail is chosen by the TX cursor and length (R101). -/
theorem tail : AlikeButStateAndMode b₀ b m (tail t) (tail t') := by
  obtain ⟨-, hindex, hlen, -⟩ := h.registers_eq
  exact .branch (by rw [hindex, hlen]) (h.pushed _) h.completed

/-- The slave transmitter's push is chosen by the TX cursor and length (R92). -/
theorem slavePushed : AlikeButStateAndMode b₀ b m (slavePushed t) (slavePushed t') := by
  obtain ⟨-, hindex, hlen, -⟩ := h.registers_eq
  have hzero := h.map ({ · with data := 0x00#8 }) (fun _ _ => rfl) rfl
  exact .branch (by rw [hindex, hlen]) (h.pushed _) (hzero.driven _ _)

/-- Whether a received byte is stored is chosen by the RX cursor and length (R94). -/
theorem received : AlikeButStateAndMode b₀ b m (received t) (received t') := by
  obtain ⟨-, -, -, hindex, hlen⟩ := h.registers_eq
  have hstored := h.map
    (fun u => { u with rxBuf := Memory.write u.rxBuf u.rxIndex u.data, rxIndex := u.rxIndex + 1 }) (fun _ _ => rfl) rfl
  exact .branch (by rw [hindex, hlen]) hstored h

end AlikeButStateAndMode

end Sys2Proof.Safety

namespace Sys2Proof.Machine

open Sys2Proof.Safety

/-! ### The handler as a whole (R100) -/

/-- From cursors that R30 allows an event reads and stores bytes inside the buffers only (R45). -/
theorem eventInside_of_cursorsInBounds (i : Instr) {s : State} (h : CursorsInBounds s) : eventInside i s := by
  obtain ⟨-, htxLen, -, hrxLen⟩ := h
  cases i
  case evMtSlaAck | evMtDataAck | evStDataAck => exact txCursorInside_of_le htxLen
  case evMrDataAck | evMrDataNack | evSrDataAck | evSrGcallDataAck => exact rxCursorInside_of_le hrxLen
  all_goals trivial

/-- Every event answers a next state or a fault: the one row that can be refused is SET_MODE (R100, R151). -/
theorem exec_event_ne_refused {i : Instr} (hi : isEvent i = true) (s : State) (r : Refusal) : exec i s ≠ .refused r := by
  intro h
  obtain ⟨m, a, rfl, -⟩ := exec_refused_inv h
  cases hi

/-- Whether an event's cursor is inside its buffer does not depend on `state` and `mode`. -/
theorem eventInside_setState_iff (i : Instr) (s : State) (b : BusState) (m : Mode) :
    eventInside i { s with busState := b, mode := m } ↔ eventInside i s := by
  cases i <;> exact Iff.rfl

/-- An event's rule is chosen by the event alone: what it leaves from two states that differ in `state` and `mode`
differs only there (R100). -/
theorem eventAfter_alike {i : Instr} (hi : isEvent i = true) (s : State) (b : BusState) (m : Mode) :
    AlikeButStateAndMode s.busState b m (eventAfter i s) (eventAfter i { s with busState := b, mode := m }) := by
  have h := AlikeButStateAndMode.before s b m
  cases i <;> simp only [isEvent, Bool.false_eq_true] at hi
  case evStartSent => exact (h.setTxIndex 0).tail
  case evMtSlaAck => exact (h.setBus .masterTransmitting).tail
  case evMtDataAck => exact h.tail
  case evMtDataNack => exact (h.recordError _).completed
  case evMrSlaAck => exact (h.setBus .masterReceiving).driven_ackChoice
  case evMrDataAck => exact h.received.driven_ackChoice
  case evMrDataNack => exact h.received.completed
  case evSrDataAck | evSrGcallDataAck => exact h.received.driven _ _
  case evStSlaAck => exact ((h.setTxIndex 0).setBus .slaveTransmitting).slavePushed
  case evStDataAck => exact h.slavePushed
  all_goals exact ⟨_, rfl, .inl rfl⟩

end Sys2Proof.Machine

namespace Sys2Proof.MasterRules

open Sys2Proof.Machine Sys2Proof.Safety

/-- Settles O30: cursors in bounds are inside the buffers, so the event completes; only SET_MODE is ever refused. -/
theorem everyEventCompletes : Obligations.EveryEventCompletes :=
  fun i s hi => ⟨fun hs => ⟨_, exec_event_next hi (eventInside_of_cursorsInBounds i hs)⟩, exec_event_ne_refused hi s⟩

/-- Settles O31: both runs have their cursor inside its buffer or neither has; inside, they leave states alike but for
`state` and `mode`, and outside they end in the event's own fault. -/
theorem handlerIgnoresStateAndMode : Obligations.HandlerIgnoresStateAndMode := by
  intro i s b m hi
  have hiff := eventInside_setState_iff i s b m
  by_cases hin : eventInside i s
  · rw [exec_event_next hi hin, exec_event_next hi (hiff.mpr hin)]
    obtain ⟨b', halike, hb⟩ := eventAfter_alike hi s b m
    refine ⟨fun t ht => ?_, fun e he => (by cases he)⟩
    cases ht
    exact ⟨b', congrArg _ halike, hb⟩
  · rw [exec_event_fault hi hin, exec_event_fault hi (mt hiff.mp hin)]
    exact ⟨fun t ht => (by cases ht), fun e he => he⟩

/-- Settles O20: after the rewind the tail sends byte 0 if one is staged, else completes by `repStart`. -/
theorem startSentSendsTheAddressByte : Obligations.StartSentSendsTheAddressByte := by
  intro s
  have hexec : exec .evStartSent s = .next (tail (s.setTxIndex 0)) := exec_event_next rfl trivial
  have hdone (h : s.txLen = 0) : tail (s.setTxIndex 0) = completed (s.setTxIndex 0) := tail_of_exhausted h.le
  refine ⟨fun h => ?_, fun h hrep => ?_, fun h hrep => ?_⟩
  · rw [hexec, tail_of_more (s := s.setTxIndex 0) h]
    rfl
  · rw [hexec, hdone h, completed_of_repStart (s := s.setTxIndex 0) hrep]
    rfl
  · rw [hexec, hdone h, completed_of_not_repStart (s := s.setTxIndex 0) hrep]
    rfl

/-- Settles O21: the rule needs no cursor inside a buffer and ends with the rewind and the write of `state`. -/
theorem repeatedStartHandsOverToTheHost : Obligations.RepeatedStartHandsOverToTheHost :=
  fun _ => exec_event_next (i := .evRepStartSent) rfl trivial

/-- Settles O22: with the cursor inside `txBuf` both events complete in the shared tail. -/
theorem acknowledgeSendsTheNextByteOrCompletes : Obligations.AcknowledgeSendsTheNextByteOrCompletes :=
  fun _ hin => ⟨exec_event_next (i := .evMtSlaAck) rfl hin, exec_event_next (i := .evMtDataAck) rfl hin⟩

/-- Settles O23: the code is recorded, then the completion path is chosen by `repStart`. -/
theorem dataNackIsRecordedAndEndsTheTransfer : Obligations.DataNackIsRecordedAndEndsTheTransfer := by
  intro s
  have hexec : exec .evMtDataNack s = .next (completed (s.recordError (s.params.status.code .mtDataNack))) :=
    exec_event_next rfl trivial
  exact ⟨fun hrep => hexec.trans (congrArg _ (completed_of_repStart hrep)),
    fun hrep => hexec.trans (congrArg _ (completed_of_not_repStart hrep))⟩

/-- Settles O24: the rule drives the tie-break's command for the present cursor. -/
theorem readAddressAckChoosesAckOrNack : Obligations.ReadAddressAckChoosesAckOrNack := by
  intro s
  have hexec : exec .evMrSlaAck s = .next (driven (s.setBus .masterReceiving) [] (ackChoice s)) :=
    exec_event_next rfl trivial
  refine ⟨fun hmore => ?_, fun hlast => ?_⟩
  · rw [hexec, ackChoice_of_more hmore]
    rfl
  · rw [hexec, ackChoice_of_last hlast]
    rfl

/-- Settles O26: the three rules are the fail-stop of their own code, which needs no cursor and does not read
`repStart`. -/
theorem failuresStopTheTransfer : Obligations.FailuresStopTheTransfer :=
  fun _ => ⟨exec_event_next (i := .evMtSlaNack) rfl trivial, exec_event_next (i := .evMrSlaNack) rfl trivial,
    exec_event_next (i := .evArbLost) rfl trivial⟩

end Sys2Proof.MasterRules
end

section
/-!
PROOFS. The statements on the Bus State Machine's slave side (43_bsm_slave): the slave receiver's rules (R124 to R126),
the catch-all (R128, 95_test_vectors S7), and a whole slave receive (95_test_vectors S5).
-/

namespace Sys2Proof.Safety

open Sys2Proof.Machine

/-! ### The host's view of a received byte (R94) -/

/-- While there is room DATA is stored at the RX cursor. -/
theorem received_rxAt_cursor {s : State} (h : s.rxIndex < s.rxLen) : (received s).rxAt s.rxIndex = s.data := by
  simp only [received, if_pos h, State.rxAt, Memory.read?_write, if_true, Option.getD_some]

/-- While there is room a received byte follows the bytes received before it. -/
theorem received_rxView_of_room {s : State} (h : s.rxIndex < s.rxLen) : (received s).rxView = s.rxView ++ [s.data] := by
  have hbefore : (List.range s.rxIndex).map (received s).rxAt = s.rxView :=
    List.map_congr_left fun _ ha => received_rxAt_of_ne s (List.mem_range.mp ha).ne
  rw [State.rxView, received_rxIndex_of_room h, List.range_succ, List.map_append, hbefore, List.map_singleton,
    received_rxAt_cursor h]

end Sys2Proof.Safety

namespace Sys2Proof.Machine

open Sys2Proof.Safety

/-- The host sees as many bytes as the RX cursor counts (R31). -/
theorem State.length_rxView (s : State) : s.rxView.length = s.rxIndex := by
  rw [State.rxView, List.length_map, List.length_range]

/-- A run that reaches a next state goes on from it. -/
theorem run_add_of_run {M : Host.Core} {j : Nat} {s t : M.State} (h : M.run j s = .next t) (k : Nat) :
    M.run (j + k) s = M.run k t := by
  induction j generalizing s with
  | zero =>
    cases h
    rw [Nat.zero_add]
  | succ j ih =>
    rw [Nat.succ_add]
    rw [Host.Core.run] at h ⊢
    split at h
    case h_1 => exact ih h
    case h_2 | h_3 => cases h

/-! ### A slave receive in progress (R124 to R126) -/

/-- A match as receiver opens the whole of `rxBuf`, with no byte received yet (R124). -/
theorem step_srSlaAck {s : State} {d : Byte} {ts : List Turn} (hp : s.params.Valid)
    (hT : s.turns = .event (s.params.status.code .srSlaAck) d :: ts) :
    ∃ t, step s = .next t ∧ t.rxIndex = 0 ∧ t.rxLen = s.params.rxCap ∧ t.rxView = [] ∧ t.turns = ts :=
  ⟨_, step_of_event hp hT trivial, rfl, rfl, rfl, rfl⟩

/-- A byte for which there is room becomes the last one the host sees (R125). -/
theorem step_srDataAck {s : State} {b : Byte} {ts : List Turn} (hp : s.params.Valid) (hroom : s.rxIndex < s.rxLen)
    (hfits : s.rxLen ≤ s.params.rxCap) (hT : s.turns = .event (s.params.status.code .srDataAck) b :: ts) :
    ∃ t, step s = .next t ∧ t.rxIndex = s.rxIndex + 1 ∧ t.rxLen = s.rxLen ∧ t.rxView = s.rxView ++ [b] ∧
      t.turns = ts := by
  let u := (s.beginTurn ts).deliver b
  have hlen : (received u).rxLen = u.rxLen := (received_rxCursor u).1
  exact ⟨_, step_of_event hp hT (rxCursorInside_of_le hfits), received_rxIndex_of_room (s := u) hroom, hlen,
    received_rxView_of_room (s := u) hroom, eventAfter_turns _ u⟩

/-- STOP returns to Available and keeps what was received (R126). -/
theorem step_srStop {s : State} {d : Byte} {ts : List Turn} (hp : s.params.Valid)
    (hT : s.turns = .event (s.params.status.code .srStop) d :: ts) :
    ∃ t, step s = .next t ∧ t.busState = .available ∧ t.rxView = s.rxView :=
  ⟨_, step_of_event hp hT trivial, rfl, rfl⟩

/-- Bytes for which there is room follow, in arrival order, those the host already sees (R125). -/
theorem run_srDataAck {s : State} {bs : List Byte} {ts : List Turn} (hp : s.params.Valid)
    (hroom : s.rxIndex + bs.length ≤ s.rxLen) (hfits : s.rxLen ≤ s.params.rxCap)
    (hT : s.turns = bs.map (fun b => .event (s.params.status.code .srDataAck) b) ++ ts) :
    ∃ t, Host.Core.run core bs.length s = .next t ∧ t.params = s.params ∧ t.rxView = s.rxView ++ bs ∧
      t.turns = ts := by
  induction bs generalizing s with
  | nil => exact ⟨s, rfl, rfl, (List.append_nil _).symm, hT⟩
  | cons b bs ih =>
    rw [List.length_cons] at hroom
    obtain ⟨u, hstep, hindex, hlen, hview, hturns⟩ := step_srDataAck hp (by omega) hfits hT
    have hparams : u.params = s.params := step_params hstep
    obtain ⟨t, hrun, htparams, htview, htturns⟩ :=
      ih (hparams ▸ hp) (by omega) (hlen ▸ hparams ▸ hfits) (hparams ▸ hturns)
    refine ⟨t, (run_succ_of_step (M := core) hstep _).trans hrun, htparams.trans hparams, ?_, htturns⟩
    rw [htview, hview, List.append_assoc, List.singleton_append]

end Sys2Proof.Machine

namespace Sys2Proof.SlaveRules

open Sys2Proof.Machine Sys2Proof.Safety

/-- Settles O29: the code decodes to the catch-all, whose rule records it, writes `state` and drives the reset command
alone. -/
theorem unrecognizedCodeNeverWedgesTheBus : Obligations.UnrecognizedCodeNeverWedgesTheBus := by
  intro s code din ts hT hnone
  have hstep : step s = .next (eventAfter (.evUnrecognized code) ((s.beginTurn ts).deliver din)) :=
    (step_of_event_turn hT (decode_ev_unrecognized hnone)).trans (exec_event_next rfl trivial)
  exact ⟨_, hstep, rfl, rfl, by simp [eventAfter, driven], rfl, rfl, rfl, rfl, rfl, fun _ => rfl, fun _ => rfl, rfl⟩

/-- Settles O56: the match leaves an empty view with room for the bytes, each byte is appended to it, and STOP keeps
it; the cursor is the view's length. -/
theorem slaveReceiveRoundTrip : Obligations.SlaveReceiveRoundTrip := by
  intro s d bs hp hcap hT
  obtain ⟨u, hmatch, huindex, hulen, huview, huturns⟩ := step_srSlaAck hp hT
  have huparams : u.params = s.params := step_params hmatch
  have hup : u.params.Valid := huparams ▸ hp
  obtain ⟨v, hbytes, hvparams, hvview, hvturns⟩ :=
    run_srDataAck hup (by omega) (by rw [hulen, huparams]) (huparams ▸ huturns)
  obtain ⟨t, hstop, hbus, htview⟩ := step_srStop (hvparams ▸ hup) (hvparams ▸ hvturns)
  have hview : t.rxView = bs := by rw [htview, hvview, huview, List.nil_append]
  have hrun : Host.Core.run core (bs.length + 2) s = .next t := calc
    Host.Core.run core (bs.length + 2) s = Host.Core.run core (bs.length + 1) u := run_succ_of_step hmatch _
    _ = Host.Core.run core 1 v := run_add_of_run hbytes 1
    _ = .next t := run_succ_of_step hstop 0
  exact ⟨t, hrun, hbus, hview ▸ t.length_rxView.symm, hview⟩

/-- Settles O28: a match and STOP need no cursor condition, a byte needs the cursor inside `rxBuf`; the general-call
rows are those of the own address. -/
theorem slaveReceiverStoresBytes : Obligations.SlaveReceiverStoresBytes :=
  fun _ => ⟨exec_event_next (i := .evSrSlaAck) rfl trivial, exec_event_next (i := .evSrGcallAck) rfl trivial,
    fun hin => ⟨exec_event_next (i := .evSrDataAck) rfl hin, exec_event_next (i := .evSrGcallDataAck) rfl hin⟩,
    exec_event_next (i := .evSrStop) rfl trivial⟩

end Sys2Proof.SlaveRules
end

section
/-!
PROOFS. The statements on transfer initiation (44_transfer_initiation): the host's turn (R135, R143), the four transfer
requests (R136 to R141), READ's completion (R142), and two whole master transfers (95_test_vectors S1, S4).
-/

namespace Sys2Proof.Machine

open Sys2Proof.Safety

/-! ### The host's turn (R135, R142, R143) -/

/-- At its turn the host tries its held request again, which is no longer open unless it is held once more. -/
theorem step_of_held_request {s : State} {ts : List Turn} {i : Instr} (hT : s.turns = .host :: ts)
    (hO : s.openReq = some (.held i)) : step s = exec i ((s.beginTurn ts).setOpen none) := by
  simp only [step, fetch, hT, fetchHost, State.beginTurn_openReq, hO]

/-- At its turn the host tries to complete its open READ. -/
theorem step_of_open_read {s : State} {ts : List Turn} {n : Nat} (hT : s.turns = .host :: ts)
    (hO : s.openReq = some (.reading n)) : step s = readCompletion n (s.beginTurn ts) := by
  simp only [step, fetch, hT, fetchHost, State.beginTurn_openReq, hO]

/-- No instruction takes or adds a request. -/
theorem exec_requests {i : Instr} {s t : State} (h : exec i s = .next t) : t.requests = s.requests := by
  rcases exec_cases h with ⟨-, -, rfl⟩ | hi | ⟨-, -, c, rfl⟩
  · obtain ⟨-, -, -, -, -, hrequests, -⟩ := eventAfter_keepsTxAndHost i s
    exact hrequests
  · obtain ⟨-, -, hrequests, -⟩ := exec_request_rx hi h
    exact hrequests
  · rfl

/-- READ's completion takes no request. -/
theorem readCompletion_requests {n : Nat} {s t : State} (h : readCompletion n s = .next t) :
    t.requests = s.requests := by
  rcases readCompletion_inv h with ⟨-, rfl⟩ | ⟨-, -, rfl⟩ <;> rfl

/-- A step takes the next request exactly at the host's turn with none open. -/
theorem step_requests {s t : State} (h : step s = .next t) :
    t.requests = if s.turns.head? = some .host ∧ s.openReq = none then s.requests.tail else s.requests := by
  rcases step_cases s _ h with ⟨hT, ht⟩ | ⟨code, din, ts, hT, hx⟩ | ⟨code, ts, hT, ⟨i, -, hx⟩ | ⟨e, -, ht⟩⟩ |
    ⟨ts, hT, ⟨i, hO, hx⟩ | ⟨n, hO, hx⟩ | ⟨hO, hR, ht⟩ | ⟨w, ws, hO, hR, ⟨i, -, hx⟩ | ⟨e, -, ht⟩⟩⟩ | ⟨ts, hT, ht⟩
  · cases ht; simp [hT]
  · simp [hT, exec_requests hx]
  · simp [hT, exec_requests hx]
  · cases ht
  · simp [hO, exec_requests hx]
  · simp [hO, readCompletion_requests hx]
  · cases ht; simp [hT, hO, hR]
  · simp [hT, hO, hR, exec_requests hx]
  · cases ht
  · cases ht; simp [hT, State.assertReset]

/-! ### The outcomes of the transfer requests (R135 to R141) -/

theorem State.whenReady_of_ready {s : State} (h : readyNow s) (i : Instr) (f : State → Res) : s.whenReady i f = f s :=
  (s.whenReady_eq i f).trans (if_pos h)

theorem State.whenReady_of_not_ready {s : State} (h : ¬ readyNow s) (i : Instr) (f : State → Res) :
    s.whenReady i f = .next (s.hold i) :=
  (s.whenReady_eq i f).trans (if_neg h)

section
variable {s : State} {rs : Bool} {a : BitVec 7} {n : Nat} {p : List Byte}

theorem exec_write_of_oversized (hn : s.params.txCap < n) :
    exec (.write rs a n p) s = .next (s.reply (.ok false)) :=
  if_pos (decide_eq_true hn)

/-- A WRITE of a length that fits waits for Ready (R137). -/
theorem exec_write_of_fits (hn : n ≤ s.params.txCap) :
    exec (.write rs a n p) s =
      s.whenReady (.write rs a n p) fun t => .next ((t.initiate (slaW a) p n rs).reply (.ok true)) :=
  if_neg (by simpa [State.oversizedTx] using hn)

theorem exec_write_of_ready (hn : n ≤ s.params.txCap) (h : readyNow s) :
    exec (.write rs a n p) s = .next ((s.initiate (slaW a) p n rs).reply (.ok true)) :=
  (exec_write_of_fits hn).trans (State.whenReady_of_ready h _ _)

/-- WRITE_TEXT waits for Ready, then sends the clamped payload (R139). -/
theorem exec_writeText_eq :
    exec (.writeText rs a n p) s =
      s.whenReady (.writeText rs a n p) fun t => .next (t.initiate (slaW a) p (min n t.params.txCap) rs) :=
  rfl

/-- SLAVE_STAGE waits for Ready, then stages the clamped payload (R140). -/
theorem exec_slaveStage_eq :
    exec (.slaveStage n p) s =
      s.whenReady (.slaveStage n p) fun t => .next (t.stageSlaveTx p (min n t.params.txCap)) :=
  rfl

theorem exec_read_of_oversized (hn : s.params.rxCap < n) : exec (.read rs a n) s = .next (s.reply (.ok false)) :=
  if_pos (decide_eq_true hn)

/-- A READ of a length that fits waits for Ready (R137). -/
theorem exec_read_of_fits (hn : n ≤ s.params.rxCap) :
    exec (.read rs a n) s =
      s.whenReady (.read rs a n) fun t =>
        .next ((((t.stageRx n).initiate (slaR a) [] 0 rs).reply (.ok true)).setOpen (some (.reading n))) :=
  if_neg (by simpa [State.oversizedRx] using hn)

end

/-- Initiate with the first `k` payload bytes (R136), in the terms of Safety.lean. -/
theorem State.initiate_eq_initiated_take (s : State) (b0 : Byte) {p : List Byte} {k : Nat} (hk : k ≤ p.length)
    (rs : Bool) :
    s.initiate b0 p k rs = initiated s (Memory.writeBytes s.txBuf 0 (b0 :: p.take k)) b0 (p.take k) rs :=
  (s.initiate_take b0 p k rs).trans (s.initiate_eq_initiated b0 (List.length_take_of_le hk) rs)

/-- A WRITE presented at the host's turn, of a length that fits and while Ready, initiates its transfer on the state with
the turn taken. -/
theorem step_of_presented_write {s : State} {ts : List Turn} {ws : List HostWord} {rs : Bool} {a : BitVec 7} {n : Nat}
    {p : List Byte} (hp : s.params.Valid) (hT : s.turns = .host :: ts) (hO : s.openReq = none)
    (hR : s.requests = ⟨hostHeader 1#3 rs .master a, n, p⟩ :: ws) (hlen : p.length = n) (hn : n ≤ s.params.txCap)
    (hready : readyNow s) :
    ∃ u : State, step s = .next ((u.initiate (slaW a) p n rs).reply (.ok true)) ∧ u.params = s.params ∧
      u.busState = s.busState ∧ u.trace = s.trace ∧ u.openReq = none ∧ u.turns = ts := by
  have hfits : n < 2 ^ s.params.lenW := (Nat.lt_succ_of_le hn).trans hp.txSize_lt
  have hdecode : decode s.params (encode s.params (.write rs a n p)) = .ok (.write rs a n p) :=
    decode_encode_request rfl (by simp [Instr.wellFormed, Params.lengthFits, hfits, hlen])
  exact ⟨_, (step_of_presented_request hT hO hR hdecode).trans (exec_write_of_ready hn hready), rfl, rfl, rfl, hO, rfl⟩

/-! ### A master transmission in progress (R101 to R106, R136) -/

/-- In `s` the bytes `bs` are left to send, all inside `txBuf`; once they are sent the trace is `out`, and the transfer
then ends with STOP and no request open. -/
structure Sending (out : List OutItem) (bs : List Byte) (s : State) : Prop where
  bytesLeft : s.txLen = s.txIndex + bs.length
  fits : s.txLen ≤ s.params.txSize
  bytes : (List.range' s.txIndex bs.length).map s.txAt = bs
  output : s.trace ++ sentItems bs = out
  stops : s.repStart = false
  noRequest : s.openReq = none

/-- Staged bytes are read back from index 0 on (R93). -/
theorem State.map_txAt_of_staged {s : State} {old : Memory} {bs : List Byte} (h : Staged old s.txBuf bs) :
    (List.range' 0 bs.length).map s.txAt = bs :=
  List.ext_getElem (by simp) fun j _ hj => by simp [State.txAt, h.1 j hj]

/-- `s` with a transfer staged that is to end with STOP, before Initiate puts anything out (R136). -/
def State.stageTransfer (s : State) (b0 : Byte) (p : List Byte) (n : Nat) : State :=
  ((s.stageTx b0 p n).setRepStart false).setBus .initializing

/-- While Available, Initiate issues START and leaves the cursor at the address byte (R136). -/
theorem State.initiate_of_available {s : State} (hb : s.busState = .available) (b0 : Byte) (p : List Byte) (n : Nat) :
    s.initiate b0 p n false = (s.stageTransfer b0 p n).issue .start :=
  if_neg (by simp [hb])

/-- After a repeated START, Initiate sends the address byte itself (R136, 90_conflicts C7). -/
theorem State.initiate_of_repeatedStart {s : State} (hb : s.busState = .repeatedStartSent) (b0 : Byte) (p : List Byte)
    (n : Nat) : s.initiate b0 p n false = pushed (s.stageTransfer b0 p n) .transmitData :=
  if_pos hb

section
variable {out : List OutItem} {b b0 : Byte} {bs p : List Byte} {n : Nat} {s : State}

/-- Sending the byte at the cursor leaves the others to send (R90). -/
theorem Sending.push (h : Sending out (b :: bs) s) : Sending out bs (pushed s .transmitData) := by
  have hbytes : s.txAt s.txIndex :: (List.range' (s.txIndex + 1) bs.length).map s.txAt = b :: bs := h.bytes
  obtain ⟨hbyte, hrest⟩ := List.cons.inj hbytes
  have hleft : s.txLen = s.txIndex + 1 + bs.length := h.bytesLeft.trans (Nat.succ_add_eq_add_succ _ _).symm
  have houtput : (pushed s .transmitData).trace ++ sentItems bs = out := by
    rw [← h.output, ← hbyte]
    simp [pushed, driven, sentItems]
  exact ⟨hleft, h.fits, hrest, houtput, h.stops, h.noRequest⟩

/-- While a byte is left the shared tail sends it (R101). -/
theorem Sending.tail_cons (h : Sending out (b :: bs) s) : Sending out bs (tail s) := by
  have hmore : s.txIndex < s.txLen := h.bytesLeft ▸ Nat.lt_add_of_pos_right (Nat.succ_pos _)
  rw [tail_of_more hmore]
  exact h.push

/-- With no byte left the shared tail ends the transfer with STOP (R101, R191). -/
theorem Sending.tail_nil (h : Sending out [] s) :
    (tail s).trace = out ++ [.cmd .stop] ∧ EndedWell (tail s) ∧ (tail s).repStart = false := by
  rw [tail_of_exhausted h.bytesLeft.le, completed_of_not_repStart h.stops]
  have htrace : (driven { s with busState := .available } [] .stop).trace = out ++ [.cmd .stop] := by
    rw [← h.output]
    rfl
  exact ⟨htrace, ⟨h.noRequest, rfl, rfl, .inl (htrace ▸ lastCommand_append_cmd _ _)⟩, h.stops⟩

/-- A staged transfer that is to end with STOP has its address byte and its payload left to send (R93). -/
theorem sending_stageTransfer (hO : s.openReq = none) (hlen : p.length = n) (hn : n ≤ s.params.txCap) :
    Sending (s.trace ++ sentItems (b0 :: p)) (b0 :: p) (s.stageTransfer b0 p n) := by
  have hstaged : stagedBytes b0 p n = b0 :: p := congrArg (b0 :: ·) (List.take_of_length_le hlen.le)
  have hleft : n + 1 = 0 + (b0 :: p).length := by rw [Nat.zero_add, List.length_cons, hlen]
  have hbytes := State.map_txAt_of_staged (s := s.stageTransfer b0 p n) (staged_writeBytes s.txBuf _)
  rw [hstaged] at hbytes
  exact ⟨hleft, Nat.succ_le_succ hn, hbytes, rfl, rfl, hO⟩

/-- A START before the first byte comes before all the bytes in the output (R136). -/
theorem Sending.issue_start (h : Sending (s.trace ++ sentItems bs) bs s) :
    Sending (s.trace ++ [.cmd .start] ++ sentItems bs) bs (s.issue .start) :=
  ⟨h.bytesLeft, h.fits, h.bytes, rfl, h.stops, h.noRequest⟩

/-- An answer to the host leaves the bytes to send (R68). -/
theorem Sending.reply (h : Sending out bs s) (r : Reply) : Sending out bs (s.reply r) :=
  ⟨h.bytesLeft, h.fits, h.bytes, h.output, h.stops, h.noRequest⟩

end

/-! ### The events that end in the shared tail (R102, R104, R106) -/

/-- On `s` the rule of event `e` is the shared tail: its rewind, if it has one, moves no cursor. -/
def RunsTail (e : Event) (s : State) : Prop := e = .mtSlaAck ∨ e = .mtDataAck ∨ (e = .startSent ∧ s.txIndex = 0)

/-- The rule writes at most `state` before the tail. -/
theorem RunsTail.eventAfter_eq {e : Event} {s : State} (h : RunsTail e s) :
    ∃ b, eventAfter (eventInstr e) s = tail (s.setBus b) := by
  rcases h with rfl | rfl | ⟨rfl, hindex⟩
  · exact ⟨.masterTransmitting, rfl⟩
  · exact ⟨s.busState, rfl⟩
  · exact ⟨s.busState, congrArg tail (congrArg s.setTxIndex hindex.symm)⟩

theorem RunsTail.eventInside {e : Event} {s : State} (h : RunsTail e s) (hin : txCursorInside s) :
    eventInside (eventInstr e) s := by
  rcases h with rfl | rfl | ⟨rfl, -⟩
  · exact hin
  · exact hin
  · trivial

section
variable {out : List OutItem} {b : Byte} {bs : List Byte} {s : State} {e : Event} {d : Byte} {ts : List Turn}

/-- Such an event's step runs the shared tail on a state that has the same bytes left to send. -/
theorem Sending.step_eq_tail (h : Sending out bs s) (he : RunsTail e s) (hp : s.params.Valid)
    (hT : s.turns = .event (s.params.status.code e) d :: ts) :
    ∃ u, step s = .next (tail u) ∧ Sending out bs u ∧ u.turns = ts := by
  have hafter : RunsTail e ((s.beginTurn ts).deliver d) := he
  obtain ⟨c, hc⟩ := hafter.eventAfter_eq
  have hstep := step_of_event hp hT (hafter.eventInside (txCursorInside_of_le h.fits))
  exact ⟨_, hstep.trans (congrArg _ hc), ⟨h.bytesLeft, h.fits, h.bytes, h.output, h.stops, h.noRequest⟩, rfl⟩

theorem Sending.step_cons (h : Sending out (b :: bs) s) (he : RunsTail e s) (hp : s.params.Valid)
    (hT : s.turns = .event (s.params.status.code e) d :: ts) :
    ∃ t, step s = .next t ∧ Sending out bs t ∧ t.turns = ts := by
  obtain ⟨u, hstep, hu, hturns⟩ := h.step_eq_tail he hp hT
  obtain ⟨-, -, -, -, -, -, htail⟩ := keepsTxAndHost_tail u
  exact ⟨tail u, hstep, hu.tail_cons, htail.trans hturns⟩

/-- Acknowledged byte by byte, a transmission sends the bytes left and ends well with STOP (R101, R191). -/
theorem Sending.run (h : Sending out bs s) (he : RunsTail e s) (hp : s.params.Valid)
    (hT : s.turns = .event (s.params.status.code e) d ::
      List.replicate bs.length (.event (s.params.status.code .mtDataAck) d)) :
    ∃ t, Host.Core.run core (bs.length + 1) s = .next t ∧ t.trace = out ++ [.cmd .stop] ∧ EndedWell t ∧
      t.repStart = false := by
  induction bs generalizing s e with
  | nil =>
    obtain ⟨u, hstep, hu, -⟩ := h.step_eq_tail he hp hT
    exact ⟨tail u, run_succ_of_step (M := core) hstep 0, hu.tail_nil⟩
  | cons b bs ih =>
    obtain ⟨u, hstep, hu, hturns⟩ := h.step_cons he hp hT
    have hparams : u.params = s.params := step_params hstep
    obtain ⟨t, hrun, hend⟩ := ih (e := .mtDataAck) hu (.inr (.inl rfl)) (hparams ▸ hp) (hparams ▸ hturns)
    exact ⟨t, (run_succ_of_step (M := core) hstep _).trans hrun, hend⟩

end

/-! ### The steps before the acknowledges (R101, R103, R136) -/

section
variable {s : State} {a : BitVec 7} {n : Nat} {p : List Byte} {d : Byte} {ts : List Turn}

/-- A WRITE presented while Available puts out START and has its address byte and its payload left to send (R138). -/
theorem step_write_of_available (hp : s.params.Valid) (hT : s.turns = .host :: ts) (hO : s.openReq = none)
    (hR : s.requests = [⟨hostHeader 1#3 false .master a, n, p⟩]) (hlen : p.length = n) (hn : n ≤ s.params.txCap)
    (hb : s.busState = .available) :
    ∃ t, step s = .next t ∧ Sending (s.trace ++ [.cmd .start] ++ sentItems (slaW a :: p)) (slaW a :: p) t ∧
      t.txIndex = 0 ∧ t.turns = ts := by
  obtain ⟨u, hstep, huparams, hubus, hutrace, huopen, huturns⟩ :=
    step_of_presented_write hp hT hO hR hlen hn (.inl hb)
  rw [State.initiate_of_available (hubus.trans hb)] at hstep
  have h : Sending _ (slaW a :: p) ((u.stageTransfer (slaW a) p n).issue .start) :=
    (sending_stageTransfer huopen hlen (huparams ▸ hn)).issue_start
  exact ⟨_, hstep, hutrace ▸ h.reply _, rfl, huturns⟩

/-- A WRITE presented after a repeated START sends its address byte at once and has its payload left to send (R136,
R138). -/
theorem step_write_of_repeatedStart (hp : s.params.Valid) (hT : s.turns = .host :: ts) (hO : s.openReq = none)
    (hR : s.requests = [⟨hostHeader 1#3 false .master a, n, p⟩]) (hlen : p.length = n) (hn : n ≤ s.params.txCap)
    (hb : s.busState = .repeatedStartSent) :
    ∃ t, step s = .next t ∧ Sending (s.trace ++ sentItems (slaW a :: p)) p t ∧ t.busState = .initializing ∧
      t.txIndex = 1 ∧ t.txLen = n + 1 ∧ t.turns = ts := by
  obtain ⟨u, hstep, huparams, hubus, hutrace, huopen, huturns⟩ :=
    step_of_presented_write hp hT hO hR hlen hn (.inr hb)
  rw [State.initiate_of_repeatedStart (hubus.trans hb)] at hstep
  have h : Sending _ p (pushed (u.stageTransfer (slaW a) p n) .transmitData) :=
    (sending_stageTransfer huopen hlen (huparams ▸ hn)).push
  exact ⟨_, hstep, hutrace ▸ h.reply _, rfl, rfl, rfl, huturns⟩

/-- With every byte sent and a repeated start requested, an acknowledge puts out START (R101). -/
theorem step_mtDataAck_of_repStart (hp : s.params.Valid) (hrep : s.repStart = true) (hsent : s.txLen ≤ s.txIndex)
    (hT : s.turns = .event (s.params.status.code .mtDataAck) d :: ts) :
    ∃ t, step s = .next t ∧ t.openReq = s.openReq ∧ t.requests = s.requests ∧ t.trace = s.trace ++ [.cmd .start] ∧
      t.turns = ts := by
  let u := (s.beginTurn ts).deliver d
  have hin : txCursorInside u := fun hmore => absurd hmore (Nat.not_lt.mpr hsent)
  have htail : tail u = u.issue .start := by
    rw [tail_of_exhausted (s := u) hsent, completed_of_repStart (s := u) hrep, State.issue_eq_driven]
  exact ⟨_, (step_of_event (e := .mtDataAck) hp hT hin).trans (congrArg _ htail), rfl, rfl, rfl, rfl⟩

/-- The repeated START hands over to the host with nothing put out (R103). -/
theorem step_repStartSent (hp : s.params.Valid) (hT : s.turns = .event (s.params.status.code .repStartSent) d :: ts) :
    ∃ t, step s = .next t ∧ t.openReq = s.openReq ∧ t.requests = s.requests ∧ t.trace = s.trace ∧ t.turns = ts ∧
      t.busState = .repeatedStartSent :=
  ⟨_, step_of_event (e := .repStartSent) hp hT trivial, rfl, rfl, rfl, rfl, rfl⟩

end

end Sys2Proof.Machine

namespace Sys2Proof.TransferRules

open Sys2Proof.Machine Sys2Proof.Safety

/-- Settles O13: the host's turn runs the held instruction on the state with the turn taken and no request open. -/
theorem heldRequestIsTriedAgain : Obligations.HeldRequestIsTriedAgain :=
  fun _ _ _ hT hO => step_of_held_request hT hO

/-- Settles O15: a step takes the next request exactly at the host's turn with none open. -/
theorem hostIsSequential : Obligations.HostIsSequential := by
  constructor
  · intro s t hO h
    rw [step_requests h, if_neg fun hnone => hO hnone.2]
  · intro s t ts hT hO h
    rw [step_requests h, if_pos ⟨by rw [hT]; rfl, hO⟩]

/-- Settles O34: the capacity is checked first, then the guard; Initiate stages the address byte and the payload. -/
theorem writeRejectsHoldsOrStarts : Obligations.WriteRejectsHoldsOrStarts := by
  intro s rs a n p hlen
  refine ⟨exec_write_of_oversized, fun hn h => ?_, fun hn h => ⟨_, staged_writeBytes s.txBuf _, ?_⟩⟩
  · exact (exec_write_of_fits hn).trans (State.whenReady_of_not_ready h _ _)
  · rw [exec_write_of_ready hn h, State.initiate_eq_initiated s _ hlen]
    rfl

/-- Settles O35: only the guard is checked; Initiate stages the clamped payload. -/
theorem writeTextClampsAndStarts : Obligations.WriteTextClampsAndStarts := by
  intro s rs a n p hlen
  have hk : min n s.params.txCap ≤ p.length := hlen ▸ Nat.min_le_left _ _
  rw [exec_writeText_eq]
  refine ⟨fun h => State.whenReady_of_not_ready h _ _, fun h => ⟨_, staged_writeBytes s.txBuf _, ?_⟩⟩
  rw [State.whenReady_of_ready h, s.initiate_eq_initiated_take _ hk]

/-- Settles O36: only the guard is checked; the clamped payload is staged from index 0. -/
theorem slaveStageStagesTheResponse : Obligations.SlaveStageStagesTheResponse := by
  intro s n p _
  rw [exec_slaveStage_eq]
  exact ⟨fun h => State.whenReady_of_not_ready h _ _,
    fun h => ⟨_, staged_writeBytes s.txBuf _, State.whenReady_of_ready h _ _⟩⟩

/-- Settles O37: as WRITE, with RX staged, an address byte alone to send, and the request left open. -/
theorem readRejectsHoldsOrStarts : Obligations.ReadRejectsHoldsOrStarts := by
  intro s rs a n
  refine ⟨exec_read_of_oversized, fun hn h => ?_, fun hn h => ⟨_, staged_writeBytes s.txBuf _, ?_⟩⟩
  · exact (exec_read_of_fits hn).trans (State.whenReady_of_not_ready h _ _)
  · have hinit := (s.stageRx n).initiate_eq_initiated (slaR a) (List.length_nil (α := Byte)) rs
    rw [exec_read_of_fits hn, State.whenReady_of_ready h, hinit]
    rfl

/-- Settles O38: the completion looks at the RX cursor alone, and `n` bytes within the capacity can be copied out. -/
theorem readReturnsItsBytes : Obligations.ReadReturnsItsBytes := by
  intro s ts n hT hO
  rw [step_of_open_read hT hO, readCompletion_eq]
  exact ⟨fun hne => if_neg hne, fun heq hn => (if_pos heq).trans (if_pos hn)⟩

/-- Settles O53: the WRITE leaves address and payload to send, START sent sends the address, and the acknowledges send
the payload and end the run. -/
theorem masterWriteSendsEveryByte : Obligations.MasterWriteSendsEveryByte := by
  intro s a n p d hp hO hb hlen hn hR hT
  subst hlen
  obtain ⟨u, hwrite, hu, hindex, huturns⟩ := step_write_of_available hp hT hO hR rfl hn hb
  have huparams : u.params = s.params := step_params hwrite
  obtain ⟨v, hsent, hv, hvturns⟩ :=
    hu.step_cons (e := .startSent) (.inr (.inr ⟨rfl, hindex⟩)) (huparams ▸ hp) (huparams ▸ huturns)
  have hvparams : v.params = s.params := (step_params hsent).trans huparams
  obtain ⟨t, hrun, htrace, ⟨hopen, hpending, hbus, hlast⟩, -⟩ :=
    hv.run (.inl rfl) (hvparams ▸ hp) (step_params hsent ▸ hvturns)
  have hfull : Host.Core.run core (p.length + 3) s = .next t := calc
    Host.Core.run core (p.length + 3) s = Host.Core.run core (p.length + 2) u := run_succ_of_step hwrite _
    _ = Host.Core.run core (p.length + 1) v := run_succ_of_step hsent _
    _ = .next t := hrun
  exact ⟨t, hfull, hbus, htrace, hopen, hpending, hbus, hlast⟩

/-- Settles O55: START ends the first transfer, the WRITE after the repeated START is bridged, and the acknowledges send
its payload and end the run. -/
theorem repeatedStartChains : Obligations.RepeatedStartChains := by
  intro s a n p d hp hO hrep hsent hlen hn hR hT
  subst hlen
  obtain ⟨v, hstart, hvopen, hvrequests, hvtrace, hvturns⟩ := step_mtDataAck_of_repStart hp hrep hsent hT
  have hvparams : v.params = s.params := step_params hstart
  obtain ⟨w, hhandOver, hwopen, hwrequests, hwtrace, hwturns, hwbus⟩ :=
    step_repStartSent (hvparams ▸ hp) (hvparams ▸ hvturns)
  have hwparams : w.params = s.params := (step_params hhandOver).trans hvparams
  obtain ⟨u, hwrite, hu, hubus, huindex, hulen, huturns⟩ :=
    step_write_of_repeatedStart (hwparams ▸ hp) hwturns (hwopen.trans (hvopen.trans hO))
      (hwrequests.trans (hvrequests.trans hR)) rfl (hwparams ▸ hn) hwbus
  have huparams : u.params = s.params := (step_params hwrite).trans hwparams
  rw [hwtrace, hvtrace] at hu
  have hutrace : u.trace = s.trace ++ [.cmd .start, .data (slaW a), .cmd .transmitData] :=
    List.append_cancel_right (hu.output.trans (by simp [sentItems]))
  obtain ⟨t, hrun, htrace, ⟨hopen, hpending, hbus, hlast⟩, hrepStart⟩ :=
    hu.run (.inl rfl) (huparams ▸ hp) (huparams ▸ hvparams ▸ huturns)
  have hbridged (k : Nat) : Host.Core.run core (k + 3) s = Host.Core.run core k u := calc
    Host.Core.run core (k + 3) s = Host.Core.run core (k + 2) v := run_succ_of_step hstart _
    _ = Host.Core.run core (k + 1) w := run_succ_of_step hhandOver _
    _ = Host.Core.run core k u := run_succ_of_step hwrite _
  exact ⟨u, hbridged 0, hubus, huindex, hulen, hu.stops, hutrace, t, hrun, (hbridged _).trans hrun, hbus, hrepStart,
    htrace, hopen, hpending, hbus, hlast⟩

end Sys2Proof.TransferRules
end

section
/-!
PROOFS. The statements on mode configuration and the queries (45_mode_and_queries): SET_MODE (R150, R151), the queries
(R152, R153), and the two reasons for which a step is refused (60_exceptions R160).
-/

namespace Sys2Proof.Machine

open Sys2Proof.Safety

/-! ### Mode configuration (R150, R151) -/

/-- The slave address byte is the address shifted left once, with the general-call bit set (R19). -/
theorem ownAddress_eq_ofNat (a : BitVec 7) : ownAddress a = BitVec.ofNat 8 (2 * a.toNat + 1) := by
  have hfits : 2 * a.toNat + 1 < 256 := by have := a.isLt; omega
  have hbit : 2 * a.toNat ||| 1 = 2 * a.toNat + 1 := (Nat.two_pow_add_eq_or_of_lt (i := 1) (by decide) a.toNat).symm
  apply BitVec.eq_of_toNat_eq
  calc (ownAddress a).toNat
      _ = 2 * a.toNat % 256 ||| 1 := by simp [ownAddress, Nat.shiftLeft_eq, Nat.mul_comm a.toNat 2]
      _ = 2 * a.toNat + 1 := by rw [Nat.mod_eq_of_lt (by omega), hbit]
      _ = (BitVec.ofNat 8 (2 * a.toNat + 1)).toNat := (Nat.mod_eq_of_lt hfits).symm

/-- SET_MODE(Master) puts out the ADDRMATCH write and the arming pattern, and issues no command. -/
theorem State.configure_master_eq (s : State) (a : BitVec 7) :
    s.configure .master a = { s.clearTransfer with
      mode := .master, addrMatch := 0x00#8, ctl := 0x05#8, trace := s.trace ++ [.addr 0x00#8, .arm] } := by
  simp [State.configure, State.arm, State.writeAddr, State.setMode]

/-- SET_MODE(Slave) puts out the ADDRMATCH write, then issues ENABLE_SLAVE_RESET. -/
theorem State.configure_slave_eq (s : State) (a : BitVec 7) :
    s.configure .slave a = driven { s.clearTransfer with mode := .slave, addrMatch := ownAddress a }
      [.addr (ownAddress a)] .enableSlaveReset :=
  rfl

theorem exec_setMode_of_available {s : State} (h : s.busState = .available) (m : Mode) (a : BitVec 7) :
    exec (.setMode m a) s = .next (s.configure m a) :=
  if_pos (decide_eq_true h)

theorem exec_setMode_of_not_available {s : State} (h : s.busState ≠ .available) (m : Mode) (a : BitVec 7) :
    exec (.setMode m a) s = .refused .setModeOutsideAvailable :=
  if_neg (by simpa [State.available] using h)

/-! ### The queries (R152, R153) -/

theorem exec_isReady_eq (s : State) : exec .isReady s = .next (s.reply (.flag s.ready)) := rfl

theorem exec_isAvailable_eq (s : State) : exec .isAvailable s = .next (s.reply (.flag s.available)) := rfl

theorem State.ready_eq_true_iff (s : State) : s.ready = true ↔ readyNow s := decide_eq_true_iff

theorem State.ready_eq_false_iff (s : State) : s.ready = false ↔ ¬ readyNow s := decide_eq_false_iff_not

theorem State.available_eq_true_iff (s : State) : s.available = true ↔ s.busState = .available := decide_eq_true_iff

theorem State.available_eq_false_iff (s : State) : s.available = false ↔ s.busState ≠ .available :=
  decide_eq_false_iff_not

/-! ### Refusals (R151, R160) -/

/-- READ's completion answers a next state or a fault (R142). -/
theorem readCompletion_ne_refused (n : Nat) (s : State) (r : Refusal) : readCompletion n s ≠ .refused r := by
  rw [readCompletion_eq]
  split
  · split <;> exact nofun
  · exact nofun

/-- A command is never refused: the one row that can be is a request (R151). -/
theorem exec_command_ne_refused {p : Params} {code : BitVec 3} {i : Instr} (hi : decode p (.cmd code) = .ok i)
    (s : State) (r : Refusal) : exec i s ≠ .refused r := by
  intro h
  obtain ⟨m, a, rfl, -⟩ := exec_refused_inv h
  cases decodeCommand_not_request hi

end Sys2Proof.Machine

namespace Sys2Proof.ModeRules

open Sys2Proof.Machine Sys2Proof.Safety

/-- Settles O51: of the kinds of turn, only the host's can run SET_MODE, the one row that is refused, and only a command
code or a presented request can fail to decode. -/
theorem refusalsHaveTwoReasons : Obligations.RefusalsHaveTwoReasons := by
  intro s r h
  rcases step_cases s _ h with ⟨-, hnext⟩ | ⟨code, din, ts, -, hx⟩ | ⟨code, ts, hT, ⟨i, hi, hx⟩ | ⟨e, he, hr⟩⟩ |
    ⟨ts, hT, ⟨i, hO, hx⟩ | ⟨n, -, hx⟩ | ⟨-, -, hnext⟩ | ⟨w, ws, hO, hR, ⟨i, hi, hx⟩ | ⟨e, he, hr⟩⟩⟩ | ⟨ts, -, hnext⟩
  · cases hnext
  · exact absurd hx (exec_event_ne_refused (decodeEvent_isEvent _ _) _ r)
  · exact absurd hx (exec_command_ne_refused hi _ r)
  · cases hr
    exact .inr ⟨.cmd code, e, rfl, he, .inl ⟨code, ts, hT, rfl⟩⟩
  · obtain ⟨m, a, rfl, hbus, rfl⟩ := exec_refused_inv hx
    exact .inl ⟨rfl, hbus, m, a, ts, hT, .inl hO⟩
  · exact absurd hx (readCompletion_ne_refused n _ r)
  · cases hnext
  · obtain ⟨m, a, rfl, hbus, rfl⟩ := exec_refused_inv hx
    exact .inl ⟨rfl, hbus, m, a, ts, hT, .inr ⟨hO, w, ws, hR, hi⟩⟩
  · cases hr
    exact .inr ⟨.host w, e, rfl, he, .inr ⟨w, ws, ts, hT, hO, hR, rfl⟩⟩
  · cases hnext

/-- Settles O40: the one guard is Available; in it the mode's configuration is written out, with the slave address byte
as a number. -/
theorem setModeReconfiguresOrIsRefused : Obligations.SetModeReconfiguresOrIsRefused := by
  intro s a
  refine ⟨fun h => ?_, fun h => ?_, fun h m => exec_setMode_of_not_available h m a⟩
  · rw [exec_setMode_of_available h, State.configure_master_eq]
    rfl
  · rw [exec_setMode_of_available h, State.configure_slave_eq, ownAddress_eq_ofNat]
    rfl

/-- Settles O41: each query answers its own flag, which is the condition asked for. -/
theorem queriesNeverMutateState : Obligations.QueriesNeverMutateState := by
  intro s
  rw [exec_isReady_eq, exec_isAvailable_eq]
  refine ⟨fun h => ?_, fun h => ?_, fun h => ?_, fun h => ?_⟩
  · rw [s.ready_eq_true_iff.mpr h, State.reply]
  · rw [s.ready_eq_false_iff.mpr h, State.reply]
  · rw [s.available_eq_true_iff.mpr h, State.reply]
  · rw [s.available_eq_false_iff.mpr h, State.reply]

end Sys2Proof.ModeRules
end

section
/-!
PROOFS. The statements on what stands in the place of exceptions (60_exceptions): the errors the handler records (R161,
R162), and that no step faults while the cursors are in bounds (R160, R45).
-/

namespace Sys2Proof.Machine

open Sys2Proof.Safety

/-! ### The table of recorded errors (R161) -/

/-- Every row of R161's table is an event. -/
theorem errorRecorded_of_not_event {i : Instr} (hi : isEvent i = false) (s : State) : errorRecorded i s = none := by
  cases i <;> simp only [isEvent, Bool.true_eq_false] at hi <;> rfl

theorem isEvent_eq_false_of_isRequest {i : Instr} (hi : isRequest i = true) : isEvent i = false := by
  cases i <;> simp only [isRequest, Bool.false_eq_true] at hi <;> rfl

/-- An instruction records the error that R161's table gives it, if it gives one, and else keeps `lastErr`. -/
theorem exec_lastErr {i : Instr} {s t : State} (h : exec i s = .next t) :
    t.lastErr = (errorRecorded i s).or s.lastErr := by
  rcases exec_cases h with ⟨-, -, rfl⟩ | hi | ⟨hi, -, c, rfl⟩
  · exact eventAfter_lastErr i s
  · rw [errorRecorded_of_not_event (isEvent_eq_false_of_isRequest hi), exec_request_lastErr hi h, Option.none_or]
  · rw [errorRecorded_of_not_event hi, Option.none_or]
    rfl

/-! ### The faults (R45, R160) -/

/-- A rule that waits for Ready and then answers a next state never faults (R135). -/
theorem State.whenReady_next_ne_fault (s : State) (i : Instr) (effect : State → State) (e : Fault) :
    s.whenReady i (fun t => .next (effect t)) ≠ .fault e := by
  rw [State.whenReady_eq]
  split <;> exact nofun

/-- A request never faults: its phase 1 reads and stores no byte at a cursor (R135 to R141, R150 to R153). -/
theorem exec_request_ne_fault {i : Instr} (hi : isRequest i = true) (s : State) (e : Fault) : exec i s ≠ .fault e := by
  cases i <;> simp only [isRequest, Bool.false_eq_true] at hi
  case setMode m a =>
    by_cases hbus : s.busState = .available
    · rw [exec_setMode_of_available hbus]
      exact nofun
    · rw [exec_setMode_of_not_available hbus]
      exact nofun
  case write rs a n p =>
    rcases Nat.lt_or_ge s.params.txCap n with hn | hn
    · rw [exec_write_of_oversized hn]
      exact nofun
    · rw [exec_write_of_fits hn]
      exact s.whenReady_next_ne_fault _ _ e
  case writeText rs a n p =>
    rw [exec_writeText_eq]
    exact s.whenReady_next_ne_fault _ _ e
  case slaveStage n p =>
    rw [exec_slaveStage_eq]
    exact s.whenReady_next_ne_fault _ _ e
  case read rs a n =>
    rcases Nat.lt_or_ge s.params.rxCap n with hn | hn
    · rw [exec_read_of_oversized hn]
      exact nofun
    · rw [exec_read_of_fits hn]
      exact s.whenReady_next_ne_fault _ _ e
  case isReady | isAvailable | hostReserved => exact nofun

/-- The instructions that fault: events whose cursor is outside its buffer (R45, log 10). -/
theorem exec_fault_inv {i : Instr} {s : State} {e : Fault} (h : exec i s = .fault e) :
    isEvent i = true ∧ ¬ eventInside i s ∧ e = eventFault i := by
  by_cases hev : isEvent i = true
  · by_cases hin : eventInside i s
    · rw [exec_event_next hev hin] at h
      cases h
    · rw [exec_event_fault hev hin] at h
      exact ⟨hev, hin, (Host.Outcome.fault.inj h).symm⟩
  · by_cases hreq : isRequest i = true
    · exact absurd h (exec_request_ne_fault hreq s e)
    · cases i <;> simp only [isEvent, isRequest, not_true_eq_false] at hev hreq <;> cases h

/-- READ's completion faults only when the RX cursor it waits for is beyond the buffer (R142, R45). -/
theorem readCompletion_fault_inv {n : Nat} {s : State} {e : Fault} (h : readCompletion n s = .fault e) :
    s.rxIndex = n ∧ s.params.rxCap < n ∧ e = .rxOutOfRange := by
  rw [readCompletion_eq] at h
  split at h
  · split at h
    · cases h
    · exact ⟨‹_›, Nat.not_le.mp ‹_›, (Host.Outcome.fault.inj h).symm⟩
  · cases h

/-- A step that faults takes a turn and then runs an instruction or tries READ's completion, which faults. -/
theorem step_fault_cases {s : State} {e : Fault} (h : step s = .fault e) :
    ∃ u, TurnTaken s u ∧ ((∃ i, exec i u = .fault e) ∨ (∃ n, readCompletion n u = .fault e)) := by
  rcases step_cases s _ h with ⟨-, hr⟩ | ⟨code, din, ts, -, hx⟩ | ⟨code, ts, -, ⟨i, -, hx⟩ | ⟨d, -, hr⟩⟩ |
    ⟨ts, -, ⟨i, -, hx⟩ | ⟨n, -, hx⟩ | ⟨-, -, hr⟩ | ⟨w, ws, -, -, ⟨i, -, hx⟩ | ⟨d, -, hr⟩⟩⟩ | ⟨ts, -, hr⟩
  · cases hr
  · exact ⟨_, ⟨_, _, _, _, _, rfl⟩, .inl ⟨_, hx⟩⟩
  · exact ⟨_, ⟨_, _, _, _, _, rfl⟩, .inl ⟨_, hx⟩⟩
  · cases hr
  · exact ⟨_, ⟨_, _, _, _, _, rfl⟩, .inl ⟨_, hx⟩⟩
  · exact ⟨_, ⟨_, _, _, _, _, rfl⟩, .inr ⟨_, hx⟩⟩
  · cases hr
  · exact ⟨_, ⟨_, _, _, _, _, rfl⟩, .inl ⟨_, hx⟩⟩
  · cases hr
  · cases hr

/-- Taking a turn moves no cursor. -/
theorem TurnTaken.cursorsInBounds {s u : State} (hu : TurnTaken s u) (h : CursorsInBounds s) : CursorsInBounds u := by
  obtain ⟨_, _, _, _, _, rfl⟩ := hu
  exact h

theorem exec_ne_fault_of_cursorsInBounds {s : State} (h : CursorsInBounds s) (i : Instr) (e : Fault) :
    exec i s ≠ .fault e := by
  intro hx
  obtain ⟨-, hout, -⟩ := exec_fault_inv hx
  exact hout (eventInside_of_cursorsInBounds i h)

theorem readCompletion_ne_fault_of_cursorsInBounds {s : State} (h : CursorsInBounds s) (n : Nat) (e : Fault) :
    readCompletion n s ≠ .fault e := by
  intro hx
  obtain ⟨rfl, hout, -⟩ := readCompletion_fault_inv hx
  obtain ⟨-, -, hindex, hlen⟩ := h
  exact Nat.not_lt.mpr (hindex.trans hlen) hout

end Sys2Proof.Machine

namespace Sys2Proof.ExceptionRules

open Sys2Proof.Machine Sys2Proof.Safety

/-- Settles O44: an event records the code of its row of R161's table, and neither a request nor a command has a row or
writes `lastErr`. -/
theorem errorsAreRecordedByTheTable : Obligations.ErrorsAreRecordedByTheTable := by
  intro i s t h
  rw [exec_lastErr h]
  cases errorRecorded i s <;> rfl

/-- Settles O50: a fault comes from an instruction or from READ's completion, run with the cursors still in bounds, and
both then stay inside the buffers. -/
theorem noStepFaults : Obligations.NoStepFaults := by
  intro s e hs h
  obtain ⟨u, hu, ⟨i, hx⟩ | ⟨n, hx⟩⟩ := step_fault_cases h
  · exact exec_ne_fault_of_cursorsInBounds (hu.cursorsInBounds hs) i e hx
  · exact readCompletion_ne_fault_of_cursorsInBounds (hu.cursorsInBounds hs) n e hx

end Sys2Proof.ExceptionRules
end

section
/-!
PROOFS. Reset and hazards (70_reset_and_hazards): what asserting `rst` leaves (R180), that every valid buffer byte has
been written (R181), and what ends an open READ (R185, R142).
-/

namespace Sys2Proof

/-- A request with a payload is well formed only with as many payload bytes as its length says (R67). -/
theorem payload_length_of_wellFormed {p : Params} {i : Instr} (h : i.wellFormed p = true) {n : Nat} {d : List Byte}
    (hi : (∃ rs a, i = .write rs a n d) ∨ (∃ rs a, i = .writeText rs a n d) ∨ i = .slaveStage n d) : d.length = n := by
  rcases hi with ⟨rs, a, rfl⟩ | ⟨rs, a, rfl⟩ | rfl <;> exact of_decide_eq_true (Bool.and_eq_true_iff.mp h).2

end Sys2Proof

namespace Sys2Proof.Machine

open Sys2Proof.Safety

/-! ### Written bytes (R181) -/

/-- The first `n` bytes of a buffer have been written: `ValidBytesWritten` says it of TX up to the length and of RX up to
the cursor. -/
def Memory.Written (m : Memory) (n : Nat) : Prop := ∀ i < n, (Memory.read? m i).isSome = true

theorem Memory.written_zero (m : Memory) : Memory.Written m 0 := fun i hi => absurd hi (Nat.not_lt_zero i)

/-- Writing the byte just above the written ones makes it one of them. -/
theorem Memory.Written.write_succ {m : Memory} {n : Nat} (h : Memory.Written m n) (c : Byte) :
    Memory.Written (Memory.write m n c) (n + 1) := by
  intro i hi
  rw [Memory.read?_write]
  split
  · rfl
  · exact h i (by omega)

/-- Staging bytes from index 0 on writes as many bytes (R93). -/
theorem Memory.written_writeBytes (m : Memory) (bs : List Byte) :
    Memory.Written (Memory.writeBytes m 0 bs) bs.length :=
  fun i hi => Option.isSome_of_eq_some ((staged_writeBytes m bs).1 i hi)

/-- Storing a received byte, or discarding it, leaves every RX byte below the cursor written (R94). -/
theorem received_rxWritten {s : State} (h : Memory.Written s.rxBuf s.rxIndex) :
    Memory.Written (received s).rxBuf (received s).rxIndex := by
  unfold received
  split
  · exact h.write_succ s.data
  · exact h

/-- An event leaves every RX byte below the cursor written: it stores DATA at the cursor, rewinds RX, or leaves RX. -/
theorem eventAfter_rxWritten (i : Instr) {s : State} (h : Memory.Written s.rxBuf s.rxIndex) :
    Memory.Written (eventAfter i s).rxBuf (eventAfter i s).rxIndex := by
  cases hi : isReceive i with
  | true =>
    obtain ⟨⟨hbuf, hindex, -⟩, -⟩ := eventAfter_of_receive hi s
    rw [hbuf, hindex]
    exact received_rxWritten h
  | false =>
    by_cases hsla : i = .evSrSlaAck ∨ i = .evSrGcallAck
    · rcases hsla with rfl | rfl <;> exact Memory.written_zero _
    · obtain ⟨hnsla, hngcall⟩ := not_or.mp hsla
      obtain ⟨hbuf, hindex, -⟩ := eventAfter_sameRx hi hnsla hngcall s
      rwa [hbuf, hindex]

theorem eventAfter_validBytesWritten (i : Instr) {s : State} (h : ValidBytesWritten s) :
    ValidBytesWritten (eventAfter i s) := by
  obtain ⟨htx, hrx⟩ := h
  obtain ⟨hbuf, hlen, -⟩ := eventAfter_keepsTxAndHost i s
  exact ⟨by rwa [hbuf, hlen], eventAfter_rxWritten i hrx⟩

/-- A transfer with at least `n` payload bytes stages `n + 1` bytes, the address byte included (R93). -/
theorem stagedBytes_length {b0 : Byte} {p : List Byte} {n : Nat} (hn : n ≤ p.length) :
    (stagedBytes b0 p n).length = n + 1 :=
  congrArg Nat.succ (List.length_take_of_le hn)

/-- Initiate writes every TX byte it makes valid, if the payload has the bytes (R136). -/
theorem State.initiate_validBytesWritten {s : State} (hrx : Memory.Written s.rxBuf s.rxIndex) {p : List Byte} {n : Nat}
    (hn : n ≤ p.length) (b0 : Byte) (rs : Bool) : ValidBytesWritten (s.initiate b0 p n rs) := by
  obtain ⟨-, -, -, -, htxBuf, htxLen, -, hrxBuf, hrxIndex, -⟩ := s.initiate_fields b0 p n rs
  constructor
  · rw [htxBuf, htxLen, ← stagedBytes_length (b0 := b0) hn]
    exact Memory.written_writeBytes _ _
  · rwa [hrxBuf, hrxIndex]

/-- Staging for the slave transmitter writes every TX byte it makes valid, if the payload has the bytes (R140). -/
theorem State.stageSlaveTx_validBytesWritten {s : State} (hrx : Memory.Written s.rxBuf s.rxIndex) {p : List Byte}
    {k : Nat} (hk : k ≤ p.length) : ValidBytesWritten (s.stageSlaveTx p k) := by
  have htx := Memory.written_writeBytes s.txBuf (p.take k)
  rw [List.length_take_of_le hk] at htx
  exact ⟨htx, hrx⟩

/-- A well-formed request stages only bytes of its payload. -/
theorem exec_request_validBytesWritten {i : Instr} {s t : State} (hi : isRequest i = true) (h : exec i s = .next t)
    (hwf : i.wellFormed s.params = true) (hs : ValidBytesWritten s) : ValidBytesWritten t := by
  have ⟨_, hrx⟩ := hs
  rcases exec_request_cases hi h with ⟨m, a, -, -, rfl⟩ | ⟨b, rfl, -⟩ | ⟨rfl, -⟩ | ⟨n, p, rfl, rfl⟩ |
    ⟨rs, a, n, p, rfl, -, -, rfl⟩ | ⟨rs, a, n, p, rfl, -, rfl⟩ | ⟨rs, a, n, -, -, -, rfl⟩
  · cases m <;> exact ⟨Memory.written_zero _, Memory.written_zero _⟩
  · exact hs
  · exact hs
  · have hlen := payload_length_of_wellFormed hwf (.inr (.inr rfl))
    exact State.stageSlaveTx_validBytesWritten hrx ((Nat.min_le_left _ _).trans hlen.ge)
  · have hlen := payload_length_of_wellFormed hwf (.inl ⟨rs, a, rfl⟩)
    exact State.initiate_validBytesWritten hrx hlen.ge _ rs
  · have hlen := payload_length_of_wellFormed hwf (.inr (.inl ⟨rs, a, rfl⟩))
    exact State.initiate_validBytesWritten hrx ((Nat.min_le_left _ _).trans hlen.ge) _ rs
  · exact State.initiate_validBytesWritten (s := s.stageRx n) (Memory.written_zero _) (Nat.zero_le _) _ rs

theorem exec_validBytesWritten {i : Instr} {s t : State} (h : exec i s = .next t)
    (hwf : i.wellFormed s.params = true) (hs : ValidBytesWritten s) : ValidBytesWritten t := by
  rcases exec_cases h with ⟨-, -, rfl⟩ | hi | ⟨-, -, c, rfl⟩
  · exact eventAfter_validBytesWritten i hs
  · exact exec_request_validBytesWritten hi h hwf hs
  · exact hs

theorem readCompletion_validBytesWritten {n : Nat} {s t : State} (h : readCompletion n s = .next t)
    (hs : ValidBytesWritten s) : ValidBytesWritten t := by
  rcases readCompletion_inv h with ⟨-, rfl⟩ | ⟨-, -, rfl⟩ <;> exact hs

/-! ### The host's open request (R135, R141, R142) -/

theorem isRequest_eq_false_of_isEvent {i : Instr} (hi : isEvent i = true) : isRequest i = false := by
  rw [← Bool.not_eq_true]
  intro hreq
  rw [isEvent_eq_false_of_isRequest hreq] at hi
  cases hi

/-- Neither an event nor a command touches the host's open request (R169, R185). -/
theorem exec_openReq_of_not_request {i : Instr} {s t : State} (hi : isRequest i = false) (h : exec i s = .next t) :
    t.openReq = s.openReq := by
  rcases exec_cases h with ⟨-, -, rfl⟩ | hreq | ⟨-, -, c, rfl⟩
  · obtain ⟨-, -, -, hopen, -⟩ := eventAfter_keepsTxAndHost i s
    exact hopen
  · rw [hi] at hreq
    cases hreq
  · rfl

/-- Initiate leaves the host's open request (R136). -/
theorem State.initiate_openReq (s : State) (b0 : Byte) (p : List Byte) (n : Nat) (rs : Bool) :
    (s.initiate b0 p n rs).openReq = s.openReq := by
  obtain ⟨-, -, -, -, -, -, -, -, -, -, -, -, hopen, -⟩ := s.initiate_fields b0 p n rs
  exact hopen

/-- A request leaves the open request, is itself held, or is a READ that goes on to its second phase (R135, R141). -/
theorem exec_request_openReq {i : Instr} {s t : State} (hi : isRequest i = true) (h : exec i s = .next t) :
    t.openReq = s.openReq ∨ t.openReq = some (.held i) ∨ ∃ n, t.openReq = some (.reading n) := by
  rcases exec_request_cases hi h with ⟨m, a, -, -, rfl⟩ | ⟨b, rfl, -⟩ | ⟨rfl, -⟩ | ⟨n, p, -, rfl⟩ |
    ⟨rs, a, n, p, -, -, -, rfl⟩ | ⟨rs, a, n, p, -, -, rfl⟩ | ⟨rs, a, n, -, -, -, rfl⟩
  · cases m <;> exact .inl rfl
  · exact .inl rfl
  · exact .inr (.inl rfl)
  · exact .inl rfl
  · exact .inl (s.initiate_openReq _ _ _ _)
  · exact .inl (s.initiate_openReq _ _ _ _)
  · exact .inr (.inr ⟨n, rfl⟩)

theorem heldWellFormed_iff (s : State) :
    HeldWellFormed s ↔ ∀ i, s.openReq = some (.held i) → i.wellFormed s.params = true := by
  unfold HeldWellFormed
  split
  case h_1 j hj => simp [hj]
  case h_2 hn => exact iff_of_true rfl fun i hi => absurd hi (hn i)

/-- The only request an instruction can leave held anew is itself. -/
theorem exec_heldWellFormed {i : Instr} {s t : State} (h : exec i s = .next t) (hwf : i.wellFormed s.params = true)
    (hs : HeldWellFormed s) : HeldWellFormed t := by
  rw [heldWellFormed_iff] at hs ⊢
  intro j hj
  rw [exec_params h]
  cases hi : isRequest i with
  | false => exact hs j ((exec_openReq_of_not_request hi h).symm.trans hj)
  | true =>
    rcases exec_request_openReq hi h with hopen | hopen | ⟨n, hopen⟩
    · exact hs j (hopen.symm.trans hj)
    · cases hopen.symm.trans hj
      exact hwf
    · cases hopen.symm.trans hj

theorem readCompletion_heldWellFormed {n : Nat} {s t : State} (h : readCompletion n s = .next t)
    (hs : HeldWellFormed s) : HeldWellFormed t := by
  rcases readCompletion_inv h with ⟨-, rfl⟩ | ⟨-, -, rfl⟩
  · exact hs
  · rfl

/-! ### What a step runs is well formed (R60, R67) -/

/-- The instruction a step runs is well formed: it was decoded from the turn's word, or held well formed. -/
theorem step_next_cases_of_heldWellFormed {s t : State} (hs : HeldWellFormed s) (h : step s = .next t) :
    (∃ u, TurnTaken s u ∧ HeldWellFormed u ∧
      ((∃ i, i.wellFormed u.params = true ∧ exec i u = .next t) ∨ (∃ n, readCompletion n u = .next t) ∨ t = u)) ∨
    (∃ ts, s.turns = .rst :: ts ∧ t = (s.beginTurn ts).assertReset) := by
  rcases step_cases s _ h with ⟨-, ht⟩ | ⟨code, din, ts, -, hx⟩ | ⟨code, ts, -, ⟨i, hd, hx⟩ | ⟨e, -, ht⟩⟩ |
    ⟨ts, -, ⟨i, hO, hx⟩ | ⟨n, -, hx⟩ | ⟨-, -, ht⟩ | ⟨w, ws, -, -, ⟨i, hd, hx⟩ | ⟨e, -, ht⟩⟩⟩ | ⟨ts, hT, ht⟩
  · exact .inl ⟨_, ⟨_, _, _, _, _, rfl⟩, hs, .inr (.inr (Host.Outcome.next.inj ht))⟩
  · exact .inl ⟨_, ⟨_, _, _, _, _, rfl⟩, hs, .inl ⟨_, wellFormed_decodeEvent s.params code, hx⟩⟩
  · exact .inl ⟨_, ⟨_, _, _, _, _, rfl⟩, hs, .inl ⟨i, wellFormed_of_decode hd, hx⟩⟩
  · cases ht
  · exact .inl ⟨_, ⟨_, _, _, _, _, rfl⟩, rfl, .inl ⟨i, (heldWellFormed_iff s).mp hs i hO, hx⟩⟩
  · exact .inl ⟨_, ⟨_, _, _, _, _, rfl⟩, hs, .inr (.inl ⟨n, hx⟩)⟩
  · exact .inl ⟨_, ⟨_, _, _, _, _, rfl⟩, hs, .inr (.inr (Host.Outcome.next.inj ht))⟩
  · exact .inl ⟨_, ⟨_, _, _, _, _, rfl⟩, hs, .inl ⟨i, wellFormed_of_decode hd, hx⟩⟩
  · cases ht
  · exact .inr ⟨ts, hT, Host.Outcome.next.inj ht⟩

/-! ### Asserting `rst` (R180) -/

/-- A turn that asserts `rst` runs no instruction. -/
theorem step_of_rst {s : State} {ts : List Turn} (hT : s.turns = .rst :: ts) :
    step s = .next (s.beginTurn ts).assertReset := by
  simp only [step, fetch, hT]

/-- After `rst` no byte is valid (R28). -/
theorem State.assertReset_validBytesWritten (s : State) : ValidBytesWritten s.assertReset :=
  ⟨Memory.written_zero _, Memory.written_zero _⟩

end Sys2Proof.Machine

namespace Sys2Proof.HazardRules

open Sys2Proof.Machine Sys2Proof.Safety

/-- Settles O49: a turn is taken without touching a buffer, and what it runs is well formed, so a request stages no more
bytes than its payload has and an event stores each RX byte before it moves the cursor past it; `rst` leaves no byte
valid. -/
theorem validBytesStayWritten : Obligations.ValidBytesStayWritten := by
  intro s t hwritten hheld h
  rcases step_next_cases_of_heldWellFormed hheld h with
    ⟨u, ⟨_, _, _, _, _, rfl⟩, hu, ⟨i, hwf, hx⟩ | ⟨n, hx⟩ | rfl⟩ | ⟨ts, -, rfl⟩
  · exact ⟨exec_validBytesWritten hx hwf hwritten, exec_heldWellFormed hx hwf hu⟩
  · exact ⟨readCompletion_validBytesWritten hx hwritten, readCompletion_heldWellFormed hx hu⟩
  · exact ⟨hwritten, hu⟩
  · exact ⟨State.assertReset_validBytesWritten _, hheld⟩

/-- Settles O39: an event or a command leaves the open request, at the host's turn the READ is what is tried, and it
ends only when its bytes are there; `rst` leaves it (log 5). -/
theorem openReadEndsOnlyByItsBytes : Obligations.OpenReadEndsOnlyByItsBytes := by
  intro s t n hread h
  rcases step_cases s _ h with ⟨-, ht⟩ | ⟨code, din, ts, -, hx⟩ | ⟨code, ts, -, ⟨i, hd, hx⟩ | ⟨e, -, ht⟩⟩ |
    ⟨ts, hT, -⟩ | ⟨ts, -, ht⟩
  · cases ht
    exact .inl hread
  · have hev := decodeEvent_isEvent s.params.status code
    exact .inl ((exec_openReq_of_not_request (isRequest_eq_false_of_isEvent hev) hx).trans hread)
  · exact .inl ((exec_openReq_of_not_request (decodeCommand_not_request hd) hx).trans hread)
  · cases ht
  · rw [step_of_open_read hT hread] at h
    rcases readCompletion_inv h with ⟨-, rfl⟩ | ⟨hindex, -, rfl⟩
    · exact .inl hread
    · exact .inr ⟨rfl, hindex, by rw [hT]; rfl⟩
  · cases ht
    exact .inl hread

/-- Settles O2: the step is `assertReset` alone, a literal of R28's values around the host and the inputs. -/
theorem rstReturnsTheBlockToReset : Obligations.RstReturnsTheBlockToReset :=
  fun _ _ hT => ⟨_, step_of_rst hT, rfl, rfl, rfl, rfl, rfl, rfl, rfl, rfl, rfl, rfl, rfl, rfl, rfl,
    fun i => ⟨Memory.read?_nil i, Memory.read?_nil i⟩, rfl, rfl, rfl, rfl, rfl⟩

end Sys2Proof.HazardRules
end
